-- ==== Sys2Proof/Word.lean ====
section
/-! DEFINITION. The widths of the spec's words (00_scope.md section 6) and the level of the data line. -/

namespace Sys2Proof

/-- A channel value, a pin number or a frame byte: 8 bits (00_scope.md section 6). -/
abbrev Byte := BitVec 8

/-- A length or a response datum: 32 bits. -/
abbrev Word32 := BitVec 32

/-- A command word `cmd[63:0]` (30_encoding.md R70). -/
abbrev Command := BitVec 64

/-- The level of the data line `DOUT` and of a segment (10_state.md R30, R31): 0 is `low`, 1 is `high`. -/
inductive Level where
  | low
  | high
  deriving DecidableEq, Repr, Inhabited

end Sys2Proof
end

