-- ==== Sys2Proof/Config.lean ====
section
/-! DEFINITION. The instance's hardwired parameters (00_scope.md section 4, 10_state.md R35) and the free values:
what the spec leaves to the environment or calls unspecified. -/

namespace Sys2Proof

/-- The six legal values of `WIRE_ORDER` (00_scope.md R9), each named by the order of its bytes on the wire. -/
inductive WireOrder where
  | rgb
  | rbg
  | grb
  | gbr
  | brg
  | bgr
  deriving DecidableEq, Repr

/-- The constants of the instance: present before reset, written by no operation (10_state.md R35).
Durations are nanoseconds. -/
structure Config where
  /-- `MAX_LEN`, the largest length INIT can succeed with. -/
  maxLen : Nat
  /-- `WIRE_ORDER`. -/
  wireOrder : WireOrder
  /-- `T0H`, high part of a 0 bit. -/
  t0h : Nat
  /-- `T0L`, low part of a 0 bit. -/
  t0l : Nat
  /-- `T1H`, high part of a 1 bit. -/
  t1h : Nat
  /-- `T1L`, low part of a 1 bit. -/
  t1l : Nat
  /-- `T_LATCH`, the latch interval. -/
  tLatch : Nat
  /-- `TOL`, the receiver's tolerance: informative, read by the reference receiver of R87 only. -/
  tol : Nat
  deriving DecidableEq, Repr

/-- The constraints of 00_scope.md section 4 and R7: a model "may assume only these two inequalities and
positivity", and the bound on `MAX_LEN`. -/
abbrev Config.wf (c : Config) : Prop :=
  c.maxLen ≤ 2 ^ 31 - 1 ∧ 0 < c.t0h ∧ c.t0h < c.t0l ∧ 0 < c.t1l ∧ c.t1l < c.t1h ∧ 0 < c.tLatch

/-- The "test configuration" column of 00_scope.md section 4. -/
def Config.test : Config where
  maxLen := 1024
  wireOrder := .grb
  t0h := 300
  t0l := 900
  t1h := 900
  t1l := 300
  tLatch := 300000
  tol := 150

/-- FREE VALUE: the environment's answer to an `init_ok` draw for which State lists none
(40_config_ops.md R100, 92_eei_decisions.md D9). The argument numbers the draw. -/
opaque Config.freeInitOk : Nat → Bool

/-- FREE VALUE: the environment's `tx_fault` for a frame for which State lists none
(43_transmission_encoder.md R136): `none`, or `some k` for `at(k)`. -/
opaque Config.freeTxFault : Nat → Option Nat

/-- FREE VALUE: `PIN` after reset, "unspecified" (10_state.md R36; 93_implementation_defined.md V2). -/
opaque Config.freePin : Nat → Byte

/-- FREE VALUE: `RSP` after reset, "unspecified" (10_state.md R36; V3). -/
opaque Config.freeRsp : Nat → BitVec 40

/-- FREE VALUE: `DOUT` after reset, "unspecified" (10_state.md R30, R36; V1). -/
opaque Config.freeLevel : Nat → Level

end Sys2Proof
end

