-- ==== Sys2Proof/Syntax.lean ====
section
/-! DEFINITION. The seven operations, one constructor per row of spec/opcode_table.json (30_encoding.md R72). -/

namespace Sys2Proof

/-- An operation with its operands (30_encoding.md R73). An index is the integer the 32-bit field spells in two's
complement; a length is unsigned; pins and channels are 8-bit fields. -/
inductive Instr where
  /-- `init pin, length` (R100). -/
  | init (pin : Byte) (length : Word32)
  /-- `set_pixel index, r, g, b` (R110). -/
  | setPixel (index : Int) (r g b : Byte)
  /-- `set_all r, g, b` (R111). -/
  | setAll (r g b : Byte)
  /-- `clear` (R121). -/
  | clear
  /-- `present` (R120). -/
  | present
  /-- `get_pixel index` (R112). -/
  | getPixel (index : Int)
  /-- `get_length` (R101). -/
  | getLength
  deriving DecidableEq, Repr

end Sys2Proof
end

