-- ==== Sys2Proof/WellFormed.lean ====
section
/-! DEFINITION. Which operations a command word can spell: an index is a 32-bit two's-complement integer
(30_encoding.md R73). Every other operand is a bit field of its own width. -/

namespace Sys2Proof

/-- `-2^31 <= i <= 2^31 - 1` (30_encoding.md R73). -/
abbrev indexFits (i : Int) : Bool :=
  decide (-(2 ^ 31) ≤ i) && decide (i ≤ 2 ^ 31 - 1)

/-- The check of every operand, constructor by constructor. -/
def Instr.wellFormed : Instr → Bool
  | .init _ _ => true
  | .setPixel i _ _ _ => indexFits i
  | .setAll _ _ _ => true
  | .clear => true
  | .present => true
  | .getPixel i => indexFits i
  | .getLength => true

end Sys2Proof
end

