-- ==== Sys2Proof/Decode.lean ====
section
/-! DEFINITION. The command encoding (30_encoding.md sections 1 to 3): the decoder, total on all 2^64 words, and
after it the encoder, both from the tables of R71 and R72. -/

namespace Sys2Proof

/-- The seven assigned values of `OPC` (R72). -/
inductive Opcode where
  | init
  | setPixel
  | setAll
  | clear
  | present
  | getPixel
  | getLength
  deriving DecidableEq, Repr

/-- The five formats (R71). -/
inductive Format where
  | I
  | P
  | C
  | X
  | Z
  deriving DecidableEq, Repr

/-- Why a word is illegal (R74). -/
inductive IllegalCommand where
  /-- `OPC` is `0x00` or in `0x08 .. 0xFF`. -/
  | unassignedOpcode
  /-- `OPC` is assigned and a field its format requires to be zero is not. -/
  | reservedFieldNotZero
  deriving DecidableEq, Repr

/-- What the decoder says of a word: "seven verdicts plus `illegal`" (R75). -/
inductive Verdict where
  | op (i : Instr)
  | illegal (why : IllegalCommand)
  deriving DecidableEq, Repr

/-- `OPC = cmd[63:56]` (R70). -/
def opcField (w : Command) : BitVec 8 := w.extractLsb' 56 8

/-- `A = cmd[55:24]` (R70). -/
def aField (w : Command) : Word32 := w.extractLsb' 24 32

/-- `C2 = cmd[23:16]` (R70). -/
def c2Field (w : Command) : Byte := w.extractLsb' 16 8

/-- `C1 = cmd[15:8]` (R70). -/
def c1Field (w : Command) : Byte := w.extractLsb' 8 8

/-- `C0 = cmd[7:0]` (R70). -/
def c0Field (w : Command) : Byte := w.extractLsb' 0 8

/-- `IDX = sint32(cmd[55:24])` (R73). -/
def indexOperand (w : Command) : Int := (aField w).toInt

/-- The `OPC` column of R72. -/
def Opcode.code : Opcode → BitVec 8
  | .init => 0x01
  | .setPixel => 0x02
  | .setAll => 0x03
  | .clear => 0x04
  | .present => 0x05
  | .getPixel => 0x06
  | .getLength => 0x07

/-- The format column of R72. -/
def Opcode.format : Opcode → Format
  | .init => .I
  | .setPixel => .P
  | .setAll => .C
  | .clear => .Z
  | .present => .Z
  | .getPixel => .X
  | .getLength => .Z

/-- The match column of R72 (and of spec/opcode_table.json). -/
def Opcode.matchBits : Opcode → Command
  | .init => 0x0100000000000000
  | .setPixel => 0x0200000000000000
  | .setAll => 0x0300000000000000
  | .clear => 0x0400000000000000
  | .present => 0x0500000000000000
  | .getPixel => 0x0600000000000000
  | .getLength => 0x0700000000000000

/-- The mask column of R72 (and of spec/opcode_table.json). -/
def Opcode.maskBits : Opcode → Command
  | .init => 0xFF00000000FFFF00
  | .setPixel => 0xFF00000000000000
  | .setAll => 0xFFFFFFFFFF000000
  | .clear => 0xFFFFFFFFFFFFFFFF
  | .present => 0xFFFFFFFFFFFFFFFF
  | .getPixel => 0xFF00000000FFFFFF
  | .getLength => 0xFFFFFFFFFFFFFFFF

/-- The row an operation belongs to. -/
def Instr.opcode : Instr → Opcode
  | .init _ _ => .init
  | .setPixel _ _ _ _ => .setPixel
  | .setAll _ _ _ => .setAll
  | .clear => .clear
  | .present => .present
  | .getPixel _ => .getPixel
  | .getLength => .getLength

/-- The opcode map read from the word's side (R72, R74). -/
def Opcode.ofCode (c : BitVec 8) : Option Opcode :=
  if c = 0x01 then some .init
  else if c = 0x02 then some .setPixel
  else if c = 0x03 then some .setAll
  else if c = 0x04 then some .clear
  else if c = 0x05 then some .present
  else if c = 0x06 then some .getPixel
  else if c = 0x07 then some .getLength
  else none

/-- "Every field a format does not use must be zero" (R71). -/
def Format.reservedZero (f : Format) (w : Command) : Bool :=
  match f with
  | .I => c2Field w == 0 && c1Field w == 0
  | .P => true
  | .C => aField w == 0
  | .X => c2Field w == 0 && c1Field w == 0 && c0Field w == 0
  | .Z => aField w == 0 && c2Field w == 0 && c1Field w == 0 && c0Field w == 0

/-- The operands of a legal word (R71, R73). -/
def Opcode.operands (o : Opcode) (w : Command) : Instr :=
  match o with
  | .init => .init (c0Field w) (aField w)
  | .setPixel => .setPixel (indexOperand w) (c2Field w) (c1Field w) (c0Field w)
  | .setAll => .setAll (c2Field w) (c1Field w) (c0Field w)
  | .clear => .clear
  | .present => .present
  | .getPixel => .getPixel (indexOperand w)
  | .getLength => .getLength

/-- The decoder (R70 to R76): it reads the word and nothing else. -/
def decode (w : Command) : Verdict :=
  match Opcode.ofCode (opcField w) with
  | none => .illegal .unassignedOpcode
  | some o =>
    if o.format.reservedZero w then .op (o.operands w) else .illegal .reservedFieldNotZero

/-- The instruction decoded from the command word whose bits are the low `nbits` bits of `w`; every row of
spec/opcode_table.json is 64 bits wide, and one command word is 64 bits (R70). -/
def decodeTableWord (nbits w : Nat) : Option Instr :=
  if nbits ≤ 64 then
    match decode (BitVec.ofNat 64 (w % 2 ^ nbits)) with
    | .op i => some i
    | .illegal _ => none
  else none

/-! ## The encoder -/

/-- `{OPC, A, C2, C1, C0}` (R70). -/
def commandWord (opc : BitVec 8) (a : Word32) (c2 c1 c0 : Byte) : Command :=
  opc ++ a ++ c2 ++ c1 ++ c0

/-- The command word of an operation (R71; the encoding lines of R100, R101, R110, R111, R112, R120, R121). -/
def encode : Instr → Command
  | .init pin length => commandWord 0x01 length 0 0 pin
  | .setPixel i r g b => commandWord 0x02 (BitVec.ofInt 32 i) r g b
  | .setAll r g b => commandWord 0x03 0 r g b
  | .clear => commandWord 0x04 0 0 0 0
  | .present => commandWord 0x05 0 0 0 0
  | .getPixel i => commandWord 0x06 (BitVec.ofInt 32 i) 0 0 0
  | .getLength => commandWord 0x07 0 0 0 0

end Sys2Proof
end

