-- ==== Sys2Proof/Machine/State.lean ====
section
/-! DEFINITION. The state of the block as plain data (10_state.md), the reasons a step can stop, and reset. -/

namespace Sys2Proof.Machine

/-- A pixel: three 8-bit channels, no alpha (10_state.md R20). -/
structure Pixel where
  r : Byte
  g : Byte
  b : Byte
  deriving DecidableEq, Repr

/-- The three channels of a pixel (00_scope.md section 6). -/
inductive Channel where
  | R
  | G
  | B
  deriving DecidableEq, Repr

/-- `CFG` (10_state.md R24). -/
inductive Cfg where
  | unconfigured
  | ready
  | failed
  deriving DecidableEq, Repr

/-- `PHASE`, exactly the two values the document names (10_state.md R25; 90_conflicts.md C6). -/
inductive Phase where
  | data
  | latch
  deriving DecidableEq, Repr

/-- The five values of `STATUS` (30_encoding.md R78). -/
inductive Status where
  | ok
  | initFault
  | txFault
  | badState
  | illegalCmd
  deriving DecidableEq, Repr

/-- `RSP`: `rsp[39:0] = STATUS ++ DATA` (30_encoding.md R77). The status is held as its 8 bits, since before the
first response any value may stand there (10_state.md R36). -/
structure Rsp where
  status : BitVec 8
  data : Word32
  deriving DecidableEq, Repr

/-- A segment of the data line: a level and a duration in nanoseconds (10_state.md R31). -/
structure Segment where
  level : Level
  ns : Nat
  deriving DecidableEq, Repr

/-- The block (10_state.md section 1), its observations, and the inputs that wait at its ports. -/
structure State where
  /-- The hardwired constants (R35); no step writes them. -/
  hw : Config
  /-- `CFG` (R24). -/
  cfg : Cfg
  /-- `LEN` (R22). -/
  len : Word32
  /-- `PIN` (R23). -/
  pin : Byte
  /-- `PB` (R21): entry `i` of the list is `PB[i]`. -/
  pb : List Pixel
  /-- `PHASE` (R25). -/
  phase : Phase
  /-- `BUSY` (R26). -/
  busy : Bool
  /-- `FRAME` (R27). -/
  frame : List Byte
  /-- `CUR` (R28). -/
  cur : Nat
  /-- `TXERR` (R29). -/
  txerr : Bool
  /-- `RSP` (R34). -/
  rsp : Rsp
  /-- `DOUT` (R30). -/
  dout : Level
  /-- `TRACE` (R31), an observation: no operation reads it. -/
  trace : List Segment
  /-- `NFRAMES` (R31), the ghost count of frames. -/
  nframes : Nat
  /-- `SHOWN` (R32), an observation: `none` is the spec's "unspecified". -/
  shown : List (Option Pixel)
  /-- The sequence of responses since reset, an observation (00_scope.md R11). -/
  rspLog : List Rsp
  /-- The command words the host will issue, next first (70_reset_and_hazards.md R181). DESIGN CHOICE (log 1): held
  here, and the next three fields too, so that one step says what comes next. Safe. -/
  cmdIn : List Command
  /-- The coming samples of the reset input, one a step; an empty list is not asserted (R170, R181). -/
  rstIn : List Bool
  /-- The environment's coming `init_ok` answers (R181). -/
  initOkIn : List Bool
  /-- The environment's coming `tx_fault` answers (R181): `some k` is `at(k)`. -/
  txFaultIn : List (Option Nat)
  /-- The model's own: the `tx_fault` drawn for the frame in flight (43_transmission_encoder.md R136).
  DESIGN CHOICE (log 5), safe. -/
  txFault : Option Nat
  /-- The model's own: how many free values have been drawn. DESIGN CHOICE (log 19), safe. -/
  drawn : Nat
  deriving DecidableEq, Repr

/-- Why the machine stops. The block itself never does (60_exceptions.md R159): each of these is raised only in a
state that breaks 10_state.md R37, which no run reaches, and each is safe (the model stops where it has no value). -/
inductive Fault where
  /-- Raised by GET_PIXEL and SET_PIXEL for an index below LEN when PB has no such entry. Safe. -/
  | pixelAbsent
  /-- Raised by the encoder's DATA step when FRAME has no byte at `CUR div 8`. Safe. -/
  | frameByteAbsent
  /-- Raised by the encoder in PHASE DATA when CUR is past `24 * LEN` (no rule of R132 to R135 is enabled). Safe. -/
  | cursorPastEnd
  deriving DecidableEq, Repr

/-- Why an instruction has no meaning. -/
inductive Refusal where
  /-- Raised by an arm of `exec` whose instruction has no meaning yet; no arm raises it. Safe. -/
  | notModelled (mnemonic : String)
  deriving DecidableEq, Repr

/-- What a meaning answers. -/
abbrev Result := Host.Outcome State Fault Refusal

/-- The reset state (10_state.md R36, 70_reset_and_hazards.md R170) of the instance `hw`, the unspecified values
being the free values numbered `n` (DESIGN CHOICE, log 3). No input is waiting at the ports. -/
def State.resetWith (hw : Config) (n : Nat) : State where
  hw := hw
  cfg := .unconfigured
  len := 0
  pin := Config.freePin n
  pb := []
  phase := .data
  busy := false
  frame := []
  cur := 0
  txerr := false
  rsp := ⟨(Config.freeRsp n).extractLsb' 32 8, (Config.freeRsp n).extractLsb' 0 32⟩
  dout := Config.freeLevel n
  trace := []
  nframes := 0
  shown := []
  rspLog := []
  cmdIn := []
  rstIn := []
  initOkIn := []
  txFaultIn := []
  txFault := none
  drawn := n + 1

/-- The machine right after reset, with the spec's test configuration (00_scope.md section 4). DESIGN CHOICE
(log 2), unsafe for a claim about this one state. -/
def State.reset : State := State.resetWith Config.test 0

end Sys2Proof.Machine
end

