-- ==== Sys2Proof/Machine/Operands.lean ====
section
/-! DEFINITION. The operand forms: channels and pixels (00_scope.md section 6, 10_state.md R20), the pixel index
(41_pixel_ops.md R114), the length (40_config_ops.md R100), and the words a response carries (30_encoding.md R77). -/

namespace Sys2Proof.Machine

/-- The zero pixel (20_memory.md R53). -/
def Pixel.black : Pixel := ⟨0, 0, 0⟩

/-- `chan(p, c)` (00_scope.md section 6). -/
def Pixel.chan (p : Pixel) : Channel → Byte
  | .R => p.r
  | .G => p.g
  | .B => p.b

/-- The 24-bit value of a pixel: R in 23:16, G in 15:8, B in 7:0 (10_state.md R20). -/
def Pixel.pack (p : Pixel) : BitVec 24 := p.r ++ p.g ++ p.b

/-- `zext_32(PB[i])`: the datum of GET_PIXEL (30_encoding.md R77, 41_pixel_ops.md R112). -/
def Pixel.datum (p : Pixel) : Word32 := p.pack.setWidth 32

/-- `0 <= i < LEN`, on exact integers (41_pixel_ops.md R113). -/
def inRange (i : Int) (s : State) : Bool :=
  decide (0 ≤ i) && decide (i < (s.len.toNat : Int))

/-- `LENGTH <= MAX_LEN` (40_config_ops.md R100), the length read unsigned. -/
def lengthAdmitted (length : Word32) (s : State) : Bool :=
  decide (length.toNat ≤ s.hw.maxLen)

/-- The response word `rsp[39:0]` (30_encoding.md R77). -/
def Rsp.word (r : Rsp) : BitVec 40 := r.status ++ r.data

/-- `24 * LEN`, the number of frame bits (30_encoding.md R82), a natural number without a width (R113). -/
def frameBits (s : State) : Nat := 24 * s.len.toNat

end Sys2Proof.Machine
end

