-- ==== Sys2Proof/Machine/Flags.lean ====
section
/-! DEFINITION. The status codes (30_encoding.md R78) and the block's only condition flag, TXERR (10_state.md R29). -/

namespace Sys2Proof.Machine

/-- The code of a status (R78). -/
def Status.code : Status → BitVec 8
  | .ok => 0x00
  | .initFault => 0x01
  | .txFault => 0x02
  | .badState => 0x03
  | .illegalCmd => 0x04

/-- `TXERR <- 0`: at frame start and at a successful INIT (R29, R100). -/
def clearTxerr (s : State) : State := { s with txerr := false }

/-- `TXERR <- 1`: the encoder's fault step (R135). -/
def setTxerr (s : State) : State := { s with txerr := true }

/-- The status of the PRESENT or CLEAR whose frame ends: OK exactly when TXERR is 0 (R120). -/
def frameStatus (s : State) : Status := if s.txerr then .txFault else .ok

end Sys2Proof.Machine
end

