-- ==== Sys2Proof/Machine/Wire.lean ====
section
/-! DEFINITION. The wire encoding (30_encoding.md section 6): frame layout, symbols, pulse trains, the waveform of a
trace (10_state.md R31), durations (70_reset_and_hazards.md R178), and the reference receiver (R87). Pure functions
of their arguments and the instance's constants (43_transmission_encoder.md R138). -/

namespace Sys2Proof

/-- `WIRE_ORDER` as the triple `(w0, w1, w2)` (00_scope.md section 4). -/
def WireOrder.channels : WireOrder → Machine.Channel × Machine.Channel × Machine.Channel
  | .rgb => (.R, .G, .B)
  | .rbg => (.R, .B, .G)
  | .grb => (.G, .R, .B)
  | .gbr => (.G, .B, .R)
  | .brg => (.B, .R, .G)
  | .bgr => (.B, .G, .R)

end Sys2Proof

namespace Sys2Proof.Machine

/-- The segment `H(t)`. -/
def high (t : Nat) : Segment := ⟨.high, t⟩

/-- The segment `L(t)`. -/
def low (t : Nat) : Segment := ⟨.low, t⟩

/-- The three frame bytes of a pixel: `chan(p, w0)`, `chan(p, w1)`, `chan(p, w2)` (20_memory.md R55). -/
def pixelBytes (o : WireOrder) (p : Pixel) : List Byte :=
  [p.chan o.channels.1, p.chan o.channels.2.1, p.chan o.channels.2.2]

/-- The byte that three wire bytes in the order `o` give the channel `c`. -/
def wireChannel (o : WireOrder) (b0 b1 b2 : Byte) (c : Channel) : Byte :=
  if o.channels.1 = c then b0 else if o.channels.2.1 = c then b1 else b2

/-- The pixel that three wire bytes spell. -/
def wirePixel (o : WireOrder) (b0 b1 b2 : Byte) : Pixel :=
  ⟨wireChannel o b0 b1 b2 .R, wireChannel o b0 b1 b2 .G, wireChannel o b0 b1 b2 .B⟩

/-- The frame layout: pixel 0's bytes first, ascending, nothing before, between or after
(30_encoding.md R82, 20_memory.md R57). -/
def frameBytes (o : WireOrder) (pb : List Pixel) : List Byte :=
  pb.flatMap (pixelBytes o)

/-- The pixels a byte sequence was built from, read back three bytes at a time: what a strip of the block's own
`WIRE_ORDER` displays (10_state.md R32). -/
def framePixels (o : WireOrder) : List Byte → List Pixel
  | b0 :: b1 :: b2 :: rest => wirePixel o b0 b1 b2 :: framePixels o rest
  | _ => []

/-- `FRAME[n div 8][7 - (n mod 8)]`: frame bit `n`, most significant first (20_memory.md R56, 30_encoding.md R82). -/
def frameBit (f : List Byte) (n : Nat) : Option Bool :=
  f[n / 8]?.map fun v => v.getLsbD (7 - n % 8)

/-- `Sym(b)`: the pulse pair of a bit (30_encoding.md R83). -/
def sym (hw : Config) (b : Bool) : List Segment :=
  if b then [high hw.t1h, low hw.t1l] else [high hw.t0h, low hw.t0l]

/-- The eight bits of a byte in transmission order, bit 7 first (20_memory.md R56). -/
def byteBits (v : Byte) : List Bool :=
  [v.getLsbD 7, v.getLsbD 6, v.getLsbD 5, v.getLsbD 4, v.getLsbD 3, v.getLsbD 2, v.getLsbD 1, v.getLsbD 0]

/-- A frame seen as bits, in transmission order (30_encoding.md R82). -/
def bitsOf (f : List Byte) : List Bool := f.flatMap byteBits

/-- `ByteSyms(v)`: sixteen segments (30_encoding.md R83). -/
def byteSyms (hw : Config) (v : Byte) : List Segment :=
  (byteBits v).flatMap (sym hw)

/-- `LatchSym` (30_encoding.md R84). -/
def latchSym (hw : Config) : List Segment := [low hw.tLatch]

/-- `Train(FRAME)` (30_encoding.md R85). -/
def train (hw : Config) (f : List Byte) : List Segment :=
  f.flatMap (byteSyms hw) ++ latchSym hw

/-- The segments of a frame whose `tx_fault` is `at(k)`: the first `2 * k` of the train, then the latch
(43_transmission_encoder.md R139). -/
def faultedTrain (hw : Config) (f : List Byte) (k : Nat) : List Segment :=
  (train hw f).take (2 * k) ++ latchSym hw

/-- `Wave(TRACE)`: every run of adjacent equal-level segments becomes one, its duration their sum (10_state.md R31). -/
def wave : List Segment → List Segment
  | [] => []
  | a :: rest =>
    match wave rest with
    | [] => [a]
    | b :: more => if a.level = b.level then ⟨a.level, a.ns + b.ns⟩ :: more else a :: b :: more

/-- The sum of the durations (70_reset_and_hazards.md R178). -/
def duration (t : List Segment) : Nat := (t.map Segment.ns).sum

/-! ## The reference receiver (30_encoding.md R87, informative) -/

/-- `|a - b| <= TOL`. -/
def within (tol a b : Nat) : Bool := decide (a ≤ b + tol) && decide (b ≤ a + tol)

/-- The pair `[H(th), L(tl)]` lies in the window of `b`. -/
def inWindow (hw : Config) (b : Bool) (th tl : Nat) : Bool :=
  if b then within hw.tol th hw.t1h && within hw.tol tl hw.t1l
  else within hw.tol th hw.t0h && within hw.tol tl hw.t0l

/-- How the receiver reads a pulse pair: a pair in both windows or in neither is read as no bit. DESIGN CHOICE (log 18),
safe. -/
def readPair (hw : Config) (th tl : Nat) : Option Bool :=
  match inWindow hw true th tl, inWindow hw false th tl with
  | true, false => some true
  | false, true => some false
  | _, _ => none

/-- The bits a receiver reads from the front of a trace up to the end of the first frame ("a low of at least
`T_LATCH`"), and the rest of the trace. DESIGN CHOICE (log 18), safe: where no such low ends the frame (the trace ends
first, or a lone low is shorter than `T_LATCH`, or a high has no low after it) the answer is none, and the bits read
before are dropped with it. -/
def receive (hw : Config) : List Segment → Option (List Bool × List Segment)
  | ⟨.high, th⟩ :: ⟨.low, tl⟩ :: rest =>
    match readPair hw th tl, receive hw rest with
    | some b, some (bits, after) => some (b :: bits, after)
    | _, _ => none
  | ⟨.low, t⟩ :: rest => if hw.tLatch ≤ t then some ([], rest) else none
  | _ => none

end Sys2Proof.Machine
end

