-- ==== Sys2Proof/Machine/Ops.lean ====
section
/-! DEFINITION. The named operations over the state: responding and taking a fault, the state checks of the front end,
the pixel buffer, the draws, emitting, frame start, reset, and the command port. -/

namespace Sys2Proof.Machine

/-! ## Responses and faults -/

/-- `respond(status, data)` (00_scope.md section 6; 30_encoding.md R77): RSP is written and the response delivered. -/
def respond (st : Status) (data : Word32) (s : State) : State :=
  { s with rsp := ⟨st.code, data⟩, rspLog := s.rspLog ++ [⟨st.code, data⟩] }

/-- Taking a fault, the block's form of `raise`: `respond(<status>, 0)` (00_scope.md section 6). No handler, no saved
context, no transfer of control (60_exceptions.md R159), so there is no return from it either (R160). -/
def raise (st : Status) (s : State) : State := respond st 0 s

/-- Check 2 of the front end for every operation but INIT: `CFG = READY` or BAD_STATE (60_exceptions.md R155, R158). -/
def onlyReady (s : State) (k : Result) : Result :=
  if s.cfg = .ready then k else .next (raise .badState s)

/-- Check 2 of the front end for INIT: `CFG = UNCONFIGURED` or BAD_STATE (60_exceptions.md R155, R158). -/
def onlyUnconfigured (s : State) (k : Result) : Result :=
  if s.cfg = .unconfigured then k else .next (raise .badState s)

/-- An illegal word: ILLEGAL_CMD and nothing else, in every CFG state (60_exceptions.md R154). -/
def illegalCommand (s : State) : State := raise .illegalCmd s

/-! ## The pixel buffer -/

/-- The form PB and LEN always have (10_state.md R37 a, b): in READY exactly LEN entries, otherwise none. -/
def Memory.wf (s : State) : Bool :=
  if s.cfg = .ready then decide (s.pb.length = s.len.toNat) else decide (s.len = 0) && s.pb.isEmpty

/-- `PB[i]`, or the zero pixel when `i` is outside `[0, LEN)` (20_memory.md R53). -/
def loadPixel (i : Int) (s : State) : Except Fault Pixel :=
  if inRange i s then
    match s.pb[i.toNat]? with
    | some p => .ok p
    | none => .error .pixelAbsent
  else .ok Pixel.black

/-- `PB[i] <- p`, or nothing when `i` is outside `[0, LEN)` (20_memory.md R51, R52). -/
def storePixel (i : Int) (p : Pixel) (s : State) : Except Fault State :=
  if inRange i s then
    if i.toNat < s.pb.length then .ok { s with pb := s.pb.set i.toNat p } else .error .pixelAbsent
  else .ok s

/-- `PB[i] <- p` for every `i` (41_pixel_ops.md R111), one indivisible update (20_memory.md R59). -/
def fillPixels (p : Pixel) (s : State) : State :=
  { s with pb := s.pb.map fun _ => p }

/-! ## The environment's draws -/

/-- The answer to `draw init_ok` (40_config_ops.md R100): the next listed one, or a free value. -/
def initOk (s : State) : Bool := s.initOkIn.headD (Config.freeInitOk s.drawn)

/-- The state once `init_ok` has been drawn. -/
def takeInitOk (s : State) : State :=
  { s with initOkIn := s.initOkIn.tail, drawn := if s.initOkIn.isEmpty then s.drawn + 1 else s.drawn }

/-- The answer to the frame's `tx_fault` draw (43_transmission_encoder.md R136): the next listed one, or a free value. -/
def nextTxFault (s : State) : Option Nat := s.txFaultIn.headD (Config.freeTxFault s.drawn)

/-- The state once `tx_fault` has been drawn for the frame that starts. -/
def takeTxFault (s : State) : State :=
  { s with
    txFault := nextTxFault s
    txFaultIn := s.txFaultIn.tail
    drawn := if s.txFaultIn.isEmpty then s.drawn + 1 else s.drawn }

/-! ## The line and the frame -/

/-- `emit(level, t)`: the segment is appended to TRACE and drives DOUT (00_scope.md section 6). -/
def emit (g : Segment) (s : State) : State :=
  { s with trace := s.trace ++ [g], dout := g.level }

/-- Several segments in order. -/
def emitAll (gs : List Segment) (s : State) : State := gs.foldl (fun s g => emit g s) s

/-- `BuildFrame()`: the snapshot of the whole buffer in wire order (42_present_ops.md R124). -/
def buildFrame (s : State) : State :=
  { s with frame := frameBytes s.hw.wireOrder s.pb }

/-- Frame start (43_transmission_encoder.md R131). -/
def startFrame (s : State) : State :=
  { clearTxerr s with cur := 0, phase := .data, busy := true }

/-- What PRESENT and CLEAR do to put a frame in flight: BuildFrame, the frame's draw, frame start (R120, R124, R131).
DESIGN CHOICE (log 5): the draw is made here, once. Safe. -/
def beginFrame (s : State) : State := startFrame (takeTxFault (buildFrame s))

/-- SHOWN at the end of a frame (10_state.md R32, 43_transmission_encoder.md R134): the pixels FRAME was built from,
or unspecified in every entry after a transmission fault. DEDUCED, with a conforming strip assumed (log 7), unsafe for
another. -/
def shownAfter (s : State) : List (Option Pixel) :=
  if s.txerr then List.replicate s.len.toNat none else (framePixels s.hw.wireOrder s.frame).map some

/-- The end of a frame after its latch segment: `NFRAMES`, `SHOWN`, `PHASE`, `BUSY` (R134), and the response of the
PRESENT or CLEAR that BUSY was holding (R120). DEDUCED (log 13): FRAME, CUR and TXERR keep their values. -/
def finishFrame (s : State) : State :=
  respond (frameStatus s) 0
    { s with nframes := s.nframes + 1, shown := shownAfter s, phase := .data, busy := false }

/-! ## Configuration -/

/-- INIT succeeds (40_config_ops.md R100). Every SHOWN entry is unspecified (10_state.md R32). -/
def configure (pin : Byte) (length : Word32) (s : State) : State :=
  { clearTxerr s with
    len := length
    pin := pin
    pb := List.replicate length.toNat Pixel.black
    phase := .data
    busy := false
    cur := 0
    dout := .low
    shown := List.replicate length.toNat none
    cfg := .ready }

/-- INIT fails: `CFG <- FAILED` and nothing else (60_exceptions.md R151). -/
def failInit (s : State) : State := { s with cfg := .failed }

/-! ## Reset and the command port -/

/-- The sample of `rst` this step takes (70_reset_and_hazards.md R170). -/
def rstAsserted (s : State) : Bool := s.rstIn.headD false

/-- The sample is taken. -/
def takeRst (s : State) : State := { s with rstIn := s.rstIn.tail }

/-- Reset is asserted: the reset state, whatever the block held (R170, R171). What waits at the ports is the host's
and the environment's, and stays: DESIGN CHOICE (log 4). -/
def applyReset (s : State) : State :=
  { State.resetWith s.hw s.drawn with
    cmdIn := s.cmdIn
    rstIn := s.rstIn.tail
    initOkIn := s.initOkIn
    txFaultIn := s.txFaultIn }

/-- `cmd_ready`: the port is held while a frame is in flight (70_reset_and_hazards.md R175, R181). -/
def cmdReady (s : State) : Bool := !s.busy

/-- The word the command port takes next, if one waits (`cmd_valid`, R181). -/
def nextCommand (s : State) : Option Command := s.cmdIn.head?

/-- The word is accepted: it waits no longer. -/
def takeCommand (s : State) : State := { s with cmdIn := s.cmdIn.tail }

end Sys2Proof.Machine
end

