-- ==== Sys2Proof/Machine/ConfigOps.lean ====
section
/-! DEFINITION. INIT and GET_LENGTH (40_config_ops.md). -/

namespace Sys2Proof.Machine

/-- INIT (R100): `init_ok` is drawn, and the block becomes READY exactly when the length is admitted and the draw is
true; otherwise INIT_FAULT and FAILED. -/
def execInit (pin : Byte) (length : Word32) (s : State) : Result :=
  onlyUnconfigured s
    (.next
      (if lengthAdmitted length s && initOk s then respond .ok 0 (configure pin length (takeInitOk s))
      else raise .initFault (failInit (takeInitOk s))))

/-- GET_LENGTH (R101): `respond(OK, LEN)`. -/
def execGetLength (s : State) : Result :=
  onlyReady s (.next (respond .ok s.len s))

end Sys2Proof.Machine
end

