-- ==== Sys2Proof/Machine/PixelOps.lean ====
section
/-! DEFINITION. SET_PIXEL, SET_ALL and GET_PIXEL (41_pixel_ops.md). None touches the line. -/

namespace Sys2Proof.Machine

/-- SET_PIXEL (R110): OK whether the index is in range or not. -/
def execSetPixel (i : Int) (r g b : Byte) (s : State) : Result :=
  onlyReady s
    (match storePixel i ⟨r, g, b⟩ s with
    | .ok t => .next (respond .ok 0 t)
    | .error f => .fault f)

/-- SET_ALL (R111). -/
def execSetAll (r g b : Byte) (s : State) : Result :=
  onlyReady s (.next (respond .ok 0 (fillPixels ⟨r, g, b⟩ s)))

/-- GET_PIXEL (R112). -/
def execGetPixel (i : Int) (s : State) : Result :=
  onlyReady s
    (match loadPixel i s with
    | .ok p => .next (respond .ok p.datum s)
    | .error f => .fault f)

end Sys2Proof.Machine
end

