-- ==== Sys2Proof/Machine/PresentOps.lean ====
section
/-! DEFINITION. PRESENT and CLEAR (42_present_ops.md): they put one frame in flight. The encoder's steps follow
(Machine/Encoder.lean), and its LATCH step delivers their response. -/

namespace Sys2Proof.Machine

/-- PRESENT (R120). -/
def execPresent (s : State) : Result :=
  onlyReady s (.next (beginFrame s))

/-- CLEAR (R121): `set_all(0,0,0)`, then exactly as PRESENT. -/
def execClear (s : State) : Result :=
  onlyReady s (.next (beginFrame (fillPixels Pixel.black s)))

end Sys2Proof.Machine
end

