-- ==== Sys2Proof/Machine/Dispatch.lean ====
section
/-! DEFINITION. One arm per operation. -/

namespace Sys2Proof.Machine

def exec (i : Instr) (s : State) : Host.Outcome State Fault Refusal :=
  match i with
  | .init pin length => Sys2Proof.Machine.execInit pin length s
  | .setPixel index r g b => Sys2Proof.Machine.execSetPixel index r g b s
  | .setAll r g b => Sys2Proof.Machine.execSetAll r g b s
  | .clear => Sys2Proof.Machine.execClear s
  | .present => Sys2Proof.Machine.execPresent s
  | .getPixel index => Sys2Proof.Machine.execGetPixel index s
  | .getLength => Sys2Proof.Machine.execGetLength s

end Sys2Proof.Machine
end

