-- ==== Sys2Proof/Machine/Encoder.lean ====
section
/-! DEFINITION. The Transmission Encoder (43_transmission_encoder.md): which of R132 to R135 is enabled, what each
does, and one call of `advance` (R137). -/

namespace Sys2Proof.Machine

/-- The encoder's four steps. -/
inductive EncMove where
  /-- R132: send one bit. -/
  | bit (b : Bool)
  /-- R133: DATA to LATCH. -/
  | toLatch
  /-- R135: the transmission fault. -/
  | fail
  /-- R134: the latch, and the end of the frame. -/
  | latch
  deriving DecidableEq, Repr

/-- The step that is enabled while BUSY = 1. R135 fires where the frame's draw says (R136): it takes the place of
R132 or R133 at `CUR = k`. DESIGN CHOICE (log 6): a draw past the end of the frame never fires. DESIGN CHOICE (log 12):
a state that breaks R37 faults. Both safe. -/
def encMove (s : State) : Except Fault EncMove :=
  match s.phase with
  | .latch => .ok .latch
  | .data =>
    if s.txFault = some s.cur ∧ s.txerr = false then .ok .fail
    else if s.cur < frameBits s then
      match frameBit s.frame s.cur with
      | some b => .ok (.bit b)
      | none => .error .frameByteAbsent
    else if s.cur = frameBits s then .ok .toLatch
    else .error .cursorPastEnd

/-- `pulses_emitted` (R137): two segments for R132, one for R134, none for the others. -/
def EncMove.pulses (hw : Config) : EncMove → List Segment
  | .bit b => sym hw b
  | .toLatch => []
  | .fail => []
  | .latch => latchSym hw

/-- `done?` (R137): true exactly for the step of R134. -/
def EncMove.done : EncMove → Bool
  | .latch => true
  | _ => false

/-- What a step does beside emitting. -/
def EncMove.effect (m : EncMove) (s : State) : State :=
  match m with
  | .bit _ => { s with cur := s.cur + 1 }
  | .toLatch => { s with phase := .latch }
  | .fail => { setTxerr s with phase := .latch }
  | .latch => finishFrame s

/-- One step: its pulses, then its effect. -/
def applyMove (m : EncMove) (s : State) : State :=
  m.effect (emitAll (m.pulses s.hw) s)

/-- One call of `advance` (R137). -/
def encStep (s : State) : Result :=
  match encMove s with
  | .ok m => .next (applyMove m s)
  | .error f => .fault f

end Sys2Proof.Machine
end

