-- ==== Sys2Proof/Machine/Step.lean ====
section
/-! DEFINITION. One step of the machine: reset if its input is asserted, else one encoder move while a frame is in
flight, else the next command word through the front end (60_exceptions.md R158). -/

namespace Sys2Proof.Machine

/-- The front end's first check, decode, and what follows it (R158). The second check, CFG, is the meaning's own. -/
def frontEnd (w : Command) (s : State) : Host.Outcome State Fault Refusal :=
  match decode w with
  | .op i => exec i s
  | .illegal _ => .next (illegalCommand s)

/-- The command port: the next word, or nothing to do (DESIGN CHOICE, log 11, safe). -/
def accept (s : State) : Host.Outcome State Fault Refusal :=
  match nextCommand s with
  | some w => frontEnd w (takeCommand s)
  | none => .next s

/-- A step without reset: the port is held while BUSY = 1 (70_reset_and_hazards.md R175). -/
def advance (s : State) : Host.Outcome State Fault Refusal :=
  if cmdReady s then accept s else encStep s

/-- One step. DESIGN CHOICE (log 4): `rst` is sampled first, and a sample that is asserted takes the whole step. -/
def step (s : State) : Host.Outcome State Fault Refusal :=
  if rstAsserted s then .next (applyReset s) else advance (takeRst s)

/-- `s` with a command word (the low `nbits` bits of `w`) waiting first at the command port, the next reset sample
not asserted, and no frame holding the port: the very next step runs it. DESIGN CHOICE (log 16), safe. -/
def State.withFetchWord (s : State) (nbits w : Nat) : State :=
  { s with
    cmdIn := BitVec.ofNat 64 (w % 2 ^ nbits) :: s.cmdIn
    rstIn := false :: s.rstIn
    busy := false
    phase := .data }

end Sys2Proof.Machine
end

