-- ==== Sys2Proof/Machine/Assembler.lean ====
section
/-! DEFINITION. The assembler (30_encoding.md section 5: R79, R80, R81): a line of text, its operands' ranges, and the
command word it spells. Blanks, empty lines, digit case and the sign of an operand are a DESIGN CHOICE (log 17). -/

namespace Sys2Proof.Machine

/-- The seven mnemonics (R79) and the three pseudo-operations (R80). -/
inductive Mnemonic where
  | init
  | setPixel
  | setAll
  | clear
  | present
  | getPixel
  | getLength
  | configure
  | fill
  | flush
  deriving DecidableEq, Repr

/-- The lower-case spelling (R79, R80). -/
def Mnemonic.spelling : Mnemonic → List Char
  | .init => ['i', 'n', 'i', 't']
  | .setPixel => ['s', 'e', 't', '_', 'p', 'i', 'x', 'e', 'l']
  | .setAll => ['s', 'e', 't', '_', 'a', 'l', 'l']
  | .clear => ['c', 'l', 'e', 'a', 'r']
  | .present => ['p', 'r', 'e', 's', 'e', 'n', 't']
  | .getPixel => ['g', 'e', 't', '_', 'p', 'i', 'x', 'e', 'l']
  | .getLength => ['g', 'e', 't', '_', 'l', 'e', 'n', 'g', 't', 'h']
  | .configure => ['c', 'o', 'n', 'f', 'i', 'g', 'u', 'r', 'e']
  | .fill => ['f', 'i', 'l', 'l']
  | .flush => ['f', 'l', 'u', 's', 'h']

/-- Every mnemonic. -/
def Mnemonic.all : List Mnemonic :=
  [.init, .setPixel, .setAll, .clear, .present, .getPixel, .getLength, .configure, .fill, .flush]

/-- The operation a mnemonic stands for: a pseudo-operation "expands to exactly that operation" (R80). -/
def Mnemonic.opcode : Mnemonic → Opcode
  | .init => .init
  | .setPixel => .setPixel
  | .setAll => .setAll
  | .clear => .clear
  | .present => .present
  | .getPixel => .getPixel
  | .getLength => .getLength
  | .configure => .init
  | .fill => .setAll
  | .flush => .present

/-- A channel operand may be any integer: `r mod 256` is placed in the field (R81). -/
def channelField (v : Int) : Byte := BitVec.ofInt 8 v

/-- The operation that integer operands spell, in the order of the document's signatures (R79); an index, a length or
a pin outside its range is rejected (R81). -/
def assembleOp (m : Mnemonic) (args : List Int) : Option Instr :=
  match m.opcode, args with
  | .init, [pin, length] =>
    if 0 ≤ pin ∧ pin ≤ 255 ∧ 0 ≤ length ∧ length ≤ 2 ^ 32 - 1 then
      some (.init (BitVec.ofInt 8 pin) (BitVec.ofInt 32 length))
    else none
  | .setPixel, [i, r, g, b] =>
    if indexFits i then some (.setPixel i (channelField r) (channelField g) (channelField b)) else none
  | .setAll, [r, g, b] => some (.setAll (channelField r) (channelField g) (channelField b))
  | .clear, [] => some .clear
  | .present, [] => some .present
  | .getPixel, [i] => if indexFits i then some (.getPixel i) else none
  | .getLength, [] => some .getLength
  | _, _ => none

/-- The command word of an operation line. -/
def assemble (m : Mnemonic) (args : List Int) : Option Command :=
  (assembleOp m args).map encode

/-! ## Text -/

/-- A space, a tab or a carriage return. -/
def isBlank (c : Char) : Bool := c == ' ' || c == '\t' || c == '\r'

/-- The text without blanks at either end. -/
def trim (cs : List Char) : List Char :=
  ((cs.dropWhile isBlank).reverse.dropWhile isBlank).reverse

/-- The pieces between the separators. -/
def splitAt (sep : Char) : List Char → List (List Char)
  | [] => [[]]
  | c :: cs =>
    if c == sep then [] :: splitAt sep cs
    else
      match splitAt sep cs with
      | [] => [[c]]
      | p :: ps => (c :: p) :: ps

/-- The value of a decimal digit. -/
def decimalDigit (c : Char) : Option Nat :=
  if 48 ≤ c.toNat ∧ c.toNat ≤ 57 then some (c.toNat - 48) else none

/-- The value of a hexadecimal digit, of either case. -/
def hexDigit (c : Char) : Option Nat :=
  if 48 ≤ c.toNat ∧ c.toNat ≤ 57 then some (c.toNat - 48)
  else if 97 ≤ c.toNat ∧ c.toNat ≤ 102 then some (c.toNat - 87)
  else if 65 ≤ c.toNat ∧ c.toNat ≤ 70 then some (c.toNat - 55)
  else none

/-- Digits in a base, most significant first; `acc` is the value so far. -/
def digits (base : Nat) (digit : Char → Option Nat) (acc : Nat) : List Char → Option Nat
  | [] => some acc
  | c :: cs => (digit c).bind fun d => digits base digit (acc * base + d) cs

/-- A literal without sign: decimal, or `0x` hexadecimal (R79). -/
def parseNatural : List Char → Option Nat
  | [] => none
  | '0' :: 'x' :: [] => none
  | '0' :: 'x' :: cs => digits 16 hexDigit 0 cs
  | cs => digits 10 decimalDigit 0 cs

/-- An integer literal with an optional leading `-` (R79; a channel may be negative, R81). -/
def parseInteger : List Char → Option Int
  | '-' :: cs => (parseNatural cs).map fun n => -(n : Int)
  | cs => (parseNatural cs).map fun n => (n : Int)

/-- All of the values, or none if one is missing. -/
def allSome {α : Type} : List (Option α) → Option (List α)
  | [] => some []
  | none :: _ => none
  | some a :: rest => (allSome rest).map (a :: ·)

/-- The operands of a line: integer literals "separated by commas" (R79). -/
def parseArgs (cs : List Char) : Option (List Int) :=
  if (trim cs).isEmpty then some []
  else allSome ((splitAt ',' cs).map fun a => parseInteger (trim a))

/-- What a line of source is. -/
inductive Line where
  /-- Nothing but blanks or a comment. -/
  | empty
  /-- An operation and its command word. -/
  | word (w : Command)
  /-- Rejected by the assembler. -/
  | rejected
  deriving DecidableEq, Repr

/-- One line: "One operation per line; `#` starts a comment" (R79). -/
def assembleLine (cs : List Char) : Line :=
  let body := trim (cs.takeWhile (· != '#'))
  if body.isEmpty then .empty
  else
    match Mnemonic.all.find? fun m => m.spelling == body.takeWhile (fun c => !isBlank c) with
    | none => .rejected
    | some m =>
      match (parseArgs (body.dropWhile fun c => !isBlank c)).bind (assemble m) with
      | none => .rejected
      | some w => .word w

/-- The command words of lines, or none if one is rejected. -/
def collectWords : List Line → Option (List Command)
  | [] => some []
  | .empty :: rest => collectWords rest
  | .word w :: rest => (collectWords rest).map (w :: ·)
  | .rejected :: _ => none

/-- A source text: its command words, or none if a line is rejected. -/
def assembleText (cs : List Char) : Option (List Command) :=
  collectWords ((splitAt '\n' cs).map assembleLine)

end Sys2Proof.Machine
end

