-- ==== Sys2Proof/Safety.lean ====
section
/-! DEFINITION. What counts as a safe state and a safe run (10_state.md R37 and the rules beside it). -/

namespace Sys2Proof.Machine

/-- What every reachable state satisfies. -/
structure State.Inv (s : State) : Prop where
  /-- The constants meet 00_scope.md section 4. -/
  config : s.hw.wf
  /-- R37 (a). -/
  unready : s.cfg ≠ .ready → s.len = 0 ∧ s.busy = false ∧ s.pb = []
  /-- R37 (b). -/
  ready : s.cfg = .ready → s.pb.length = s.len.toNat ∧ s.len.toNat ≤ s.hw.maxLen
  /-- R37 (c). -/
  frameLength : s.busy = true → s.frame.length = 3 * s.len.toNat
  /-- R37 (d). -/
  cursor : s.cur ≤ 24 * s.len.toNat
  /-- R37 (e). -/
  latchBusy : s.phase = .latch → s.busy = true
  /-- SHOWN has LEN entries (10_state.md section 1). -/
  shownLength : s.shown.length = s.len.toNat
  /-- DOUT is low between steps in READY: between frames (R30), and inside one because every pulse pair ends low. -/
  lineLow : s.cfg = .ready → s.dout = .low
  /-- TXERR is 1 in flight only once the frame has gone to LATCH (43_transmission_encoder.md R131, R135). -/
  dataClean : s.busy = true → s.phase = .data → s.txerr = false

/-- The step stops neither with a fault nor with a refusal. -/
def Safe (s : State) : Prop := ∃ t, step s = .next t

/-- `n` steps of the machine, ending at the first that stops it (Host.Core.run at this machine). -/
def runFor : Nat → State → Result
  | 0, s => .next s
  | n + 1, s =>
    match step s with
    | .next t => runFor n t
    | .fault f => .fault f
    | .refused r => .refused r

/-- None of the next `n` samples of `rst` is asserted. -/
abbrev quietFor (n : Nat) (s : State) : Prop := ∀ b ∈ s.rstIn.take n, b = false

/-- The command port takes the word `w` in the coming step, and `ws` wait after it: no reset, no frame in flight. -/
abbrev offers (s : State) (w : Command) (ws : List Command) : Prop :=
  rstAsserted s = false ∧ s.busy = false ∧ s.cmdIn = w :: ws

/-- `s` with one response delivered (30_encoding.md R77). -/
def answered (status : BitVec 8) (data : Word32) (s : State) : State :=
  { s with rsp := ⟨status, data⟩, rspLog := s.rspLog ++ [⟨status, data⟩] }

/-- What the big step of a transmitting operation leaves (43_transmission_encoder.md R139, 42_present_ops.md R120):
`n` steps after `s`, the words `ws` still waiting, the buffer `pb` sent as `segs`, the cursor at `cur`, and a
transmission fault or none. -/
def afterFrame (s : State) (ws : List Command) (n : Nat) (pb : List Pixel) (segs : List Segment) (cur : Nat)
    (fault : Bool) : State :=
  { s with
    cmdIn := ws
    rstIn := s.rstIn.drop n
    pb := pb
    frame := frameBytes s.hw.wireOrder pb
    txFault := nextTxFault s
    txFaultIn := s.txFaultIn.tail
    drawn := if s.txFaultIn.isEmpty then s.drawn + 1 else s.drawn
    cur := cur
    txerr := fault
    phase := .data
    busy := false
    trace := s.trace ++ segs
    dout := .low
    nframes := s.nframes + 1
    shown := if fault then List.replicate s.len.toNat none else pb.map some
    rsp := ⟨if fault then 0x02 else 0x00, 0⟩
    rspLog := s.rspLog ++ [⟨if fault then 0x02 else 0x00, 0⟩] }

/-- Reachability: from a reset state of some instance meeting its constraints, with any inputs waiting at the ports. -/
inductive Reachable : State → Prop where
  | reset (hw : Config) (n : Nat) (cmds : List Command) (rsts oks : List Bool) (txs : List (Option Nat)) (wf : hw.wf) :
      Reachable { State.resetWith hw n with cmdIn := cmds, rstIn := rsts, initOkIn := oks, txFaultIn := txs }
  | step (s t : State) (r : Reachable s) (h : Machine.step s = .next t) : Reachable t

end Sys2Proof.Machine
end

