-- ==== Sys2Proof/Certificates/Slice0/Obligations.lean ====
section
/-! DEFINITION. The statements for the provers. A docstring names the rule of spec/ a statement formalises; where a
statement rests on a choice of the model it names the log entry (notes/assumptions). -/

open Sys2Proof Sys2Proof.Machine

/-! ## Encoding -/

/-- Command words written out from 30_encoding.md R71 (95_test_vectors.md T1 to T16) and their verdicts. -/
def Obligations.SpelledWordsDecode : Prop :=
  decode 0x0100000003000012 = .op (.init 18 3) ∧
  decode 0x020000000100FF00 = .op (.setPixel 1 0 255 0) ∧
  decode 0x02FFFFFFFF010203 = .op (.setPixel (-1) 1 2 3) ∧
  decode 0x03000000000A141E = .op (.setAll 10 20 30) ∧
  decode 0x0400000000000000 = .op .clear ∧
  decode 0x0500000000000000 = .op .present ∧
  decode 0x0600000001000000 = .op (.getPixel 1) ∧
  decode 0x0700000000000000 = .op .getLength ∧
  decode 0x0000000000000000 = .illegal .unassignedOpcode ∧
  decode 0x0800000000000000 = .illegal .unassignedOpcode ∧
  decode 0xFF00000000000000 = .illegal .unassignedOpcode ∧
  decode 0x0100000003010012 = .illegal .reservedFieldNotZero ∧
  decode 0x03000000010A141E = .illegal .reservedFieldNotZero ∧
  decode 0x0500000000000001 = .illegal .reservedFieldNotZero ∧
  decode 0x0600000001000001 = .illegal .reservedFieldNotZero ∧
  decode 0x0700000000000100 = .illegal .reservedFieldNotZero

/-- Decoding the word of any well-formed operation gives it back, every operand at every value (R70 to R73). -/
def Obligations.DecodeOfEncode : Prop :=
  ∀ i : Instr, i.wellFormed = true → decode (encode i) = .op i

/-- A word that decodes to an operation is the word of that operation, which is well-formed: each word has one
meaning and each operation one word (R70 to R73). -/
def Obligations.EncodeOfDecode : Prop :=
  ∀ (w : Command) (i : Instr), decode w = .op i → i.wellFormed = true ∧ encode i = w

/-- R72: a word selects the row whose `w AND mask = match`, the rows written out as the rule's table has them; since a
word decodes to one verdict, the seven rows are disjoint. -/
def Obligations.DecodeSelectsTableRow : Prop :=
  ∀ w : Command,
    ((∃ pin n, decode w = .op (.init pin n)) ↔ w &&& 0xFF00000000FFFF00 = 0x0100000000000000) ∧
    ((∃ x r g b, decode w = .op (.setPixel x r g b)) ↔ w &&& 0xFF00000000000000 = 0x0200000000000000) ∧
    ((∃ r g b, decode w = .op (.setAll r g b)) ↔ w &&& 0xFFFFFFFFFF000000 = 0x0300000000000000) ∧
    (decode w = .op .clear ↔ w &&& 0xFFFFFFFFFFFFFFFF = 0x0400000000000000) ∧
    (decode w = .op .present ↔ w &&& 0xFFFFFFFFFFFFFFFF = 0x0500000000000000) ∧
    ((∃ x, decode w = .op (.getPixel x)) ↔ w &&& 0xFF00000000FFFFFF = 0x0600000000000000) ∧
    (decode w = .op .getLength ↔ w &&& 0xFFFFFFFFFFFFFFFF = 0x0700000000000000)

/-- R74: which words are illegal, and that such a word changes nothing but the response, ILLEGAL_CMD. The fields are
written out as bits of the word. -/
def Obligations.IllegalWordsAnswered : Prop :=
  (∀ w : Command, (∃ why, decode w = .illegal why) ↔
    w.extractLsb' 56 8 = 0 ∨ 8 ≤ (w.extractLsb' 56 8).toNat ∨
    (w.extractLsb' 56 8 = 1 ∧ w.extractLsb' 8 16 ≠ 0) ∨
    (w.extractLsb' 56 8 = 3 ∧ w.extractLsb' 24 32 ≠ 0) ∨
    (w.extractLsb' 56 8 = 6 ∧ w.extractLsb' 0 24 ≠ 0) ∨
    ((w.extractLsb' 56 8 = 4 ∨ w.extractLsb' 56 8 = 5 ∨ w.extractLsb' 56 8 = 7) ∧ w.extractLsb' 0 56 ≠ 0)) ∧
  (∃ why, decode 0 = .illegal why) ∧
  (∀ (s : State) (w : Command) (ws : List Command) (why : IllegalCommand), offers s w ws → decode w = .illegal why →
    step s = .next (answered 0x04 0 { s with cmdIn := ws, rstIn := s.rstIn.tail }))

/-- R73: the operands as numbers read from the word, the index signed and the length unsigned. -/
def Obligations.OperandsOfWord : Prop :=
  ∀ w : Command,
    (∀ pin n, decode w = .op (.init pin n) → n.toNat = w.toNat / 2 ^ 24 % 2 ^ 32 ∧ pin.toNat = w.toNat % 2 ^ 8) ∧
    (∀ x r g b, decode w = .op (.setPixel x r g b) →
      (x = ((w.toNat / 2 ^ 24 % 2 ^ 32 : Nat) : Int) ∧ x < 2 ^ 31 ∨
        x = ((w.toNat / 2 ^ 24 % 2 ^ 32 : Nat) : Int) - 2 ^ 32 ∧ 2 ^ 31 ≤ w.toNat / 2 ^ 24 % 2 ^ 32) ∧
      r.toNat = w.toNat / 2 ^ 16 % 2 ^ 8 ∧ g.toNat = w.toNat / 2 ^ 8 % 2 ^ 8 ∧ b.toNat = w.toNat % 2 ^ 8) ∧
    (∀ r g b, decode w = .op (.setAll r g b) →
      r.toNat = w.toNat / 2 ^ 16 % 2 ^ 8 ∧ g.toNat = w.toNat / 2 ^ 8 % 2 ^ 8 ∧ b.toNat = w.toNat % 2 ^ 8) ∧
    (∀ x, decode w = .op (.getPixel x) →
      (x = ((w.toNat / 2 ^ 24 % 2 ^ 32 : Nat) : Int) ∧ x < 2 ^ 31 ∨
        x = ((w.toNat / 2 ^ 24 % 2 ^ 32 : Nat) : Int) - 2 ^ 32 ∧ 2 ^ 31 ≤ w.toNat / 2 ^ 24 % 2 ^ 32))

/-- R81: a channel operand is reduced modulo 256; an index, length or pin operand outside its range is rejected. The
same for the pseudo-operations of R80 that have operands, `fill` (SET_ALL) and `configure` (INIT); `flush` is
PRESENT. -/
def Obligations.AssemblerOperandRanges : Prop :=
  (∀ m : Mnemonic, m = .setAll ∨ m = .fill → ∀ r g b : Int, ∃ x y z : Byte,
    assemble m [r, g, b] = some (encode (.setAll x y z)) ∧
    (x.toNat : Int) = r % 256 ∧ (y.toNat : Int) = g % 256 ∧ (z.toNat : Int) = b % 256) ∧
  (∀ i r g b : Int, -(2 ^ 31) ≤ i ∧ i ≤ 2 ^ 31 - 1 → ∃ x y z : Byte,
    assemble .setPixel [i, r, g, b] = some (encode (.setPixel i x y z)) ∧
    (x.toNat : Int) = r % 256 ∧ (y.toNat : Int) = g % 256 ∧ (z.toNat : Int) = b % 256) ∧
  (∀ i r g b : Int, ¬(-(2 ^ 31) ≤ i ∧ i ≤ 2 ^ 31 - 1) →
    assemble .setPixel [i, r, g, b] = none ∧ assemble .getPixel [i] = none) ∧
  (∀ i : Int, -(2 ^ 31) ≤ i ∧ i ≤ 2 ^ 31 - 1 → assemble .getPixel [i] = some (encode (.getPixel i))) ∧
  (∀ m : Mnemonic, m = .init ∨ m = .configure → ∀ p n : Int,
    (0 ≤ p ∧ p ≤ 255 → 0 ≤ n ∧ n ≤ 2 ^ 32 - 1 → ∃ (pin : Byte) (len : Word32),
      assemble m [p, n] = some (encode (.init pin len)) ∧ (pin.toNat : Int) = p ∧ (len.toNat : Int) = n) ∧
    (¬((0 ≤ p ∧ p ≤ 255) ∧ (0 ≤ n ∧ n ≤ 2 ^ 32 - 1)) → assemble m [p, n] = none)) ∧
  (∀ args : List Int, assemble .flush args = assemble .present args)

/-! ## Reset -/

/-- R36: the reset state of every instance. What the rule leaves unspecified (PIN, RSP, DOUT) is a free value, of
which nothing is said (log 3); with LEN = 0 there is no SHOWN entry. The model's `State.reset` is this state for the
test configuration (log 2). -/
def Obligations.ResetState : Prop :=
  (∀ (hw : Config) (n : Nat),
    (State.resetWith hw n).cfg = .unconfigured ∧ (State.resetWith hw n).len = 0 ∧ (State.resetWith hw n).pb = [] ∧
    (State.resetWith hw n).phase = .data ∧ (State.resetWith hw n).busy = false ∧ (State.resetWith hw n).cur = 0 ∧
    (State.resetWith hw n).txerr = false ∧ (State.resetWith hw n).frame = [] ∧ (State.resetWith hw n).trace = [] ∧
    (State.resetWith hw n).nframes = 0 ∧ (State.resetWith hw n).shown = [] ∧ (State.resetWith hw n).hw = hw) ∧
  State.reset = State.resetWith Config.test 0

/-- R171, R170: a step that samples `rst` asserted ends in the reset state, whatever the block held, a frame in
flight included. Two states that differ in anything but the instance, the free-value counter and the inputs waiting
at the ports step to the same state, so nothing of before the reset has any influence after it. That waiting inputs
stay is the model's (log 4). -/
def Obligations.NothingSurvivesReset : Prop :=
  ∀ s s' : State, rstAsserted s = true →
    step s = .next { State.resetWith s.hw s.drawn with
      cmdIn := s.cmdIn, rstIn := s.rstIn.tail, initOkIn := s.initOkIn, txFaultIn := s.txFaultIn } ∧
    (s'.hw = s.hw → s'.drawn = s.drawn → s'.cmdIn = s.cmdIn → s'.rstIn = s.rstIn → s'.initOkIn = s.initOkIn →
      s'.txFaultIn = s.txFaultIn → step s' = step s)

/-- The invariant of 10_state.md R37 holds at reset, for every instance that meets its constraints and whatever waits
at the ports. -/
def Obligations.ResetMeetsInvariant : Prop :=
  ∀ (hw : Config) (n : Nat) (cmds : List Command) (rsts oks : List Bool) (txs : List (Option Nat)), hw.wf →
    State.Inv { State.resetWith hw n with cmdIn := cmds, rstIn := rsts, initOkIn := oks, txFaultIn := txs }

/-! ## The front end -/

/-- R158: a word at the port that decodes to an operation is run: the step is `exec` of it, with the word and the
sample of `rst` taken. -/
def Obligations.StepRunsDecodedOperation : Prop :=
  ∀ (s : State) (w : Command) (ws : List Command) (i : Instr), offers s w ws → decode w = .op i →
    step s = exec i { s with cmdIn := ws, rstIn := s.rstIn.tail }

/-- R155: INIT outside UNCONFIGURED and every other operation outside READY answer BAD_STATE and change nothing but
the response; a permitted operation never answers BAD_STATE. -/
def Obligations.PermittedPairs : Prop :=
  ∀ (s : State) (i : Instr),
    ((if i.opcode = .init then s.cfg ≠ .unconfigured else s.cfg ≠ .ready) → exec i s = .next (answered 0x03 0 s)) ∧
    ((if i.opcode = .init then s.cfg = .unconfigured else s.cfg = .ready) → Memory.wf s = true →
      ∃ t, exec i s = .next t ∧ (t.rspLog = s.rspLog ∨ ∃ r, t.rspLog = s.rspLog ++ [r] ∧ r.status ≠ 0x03))

/-- R34: an accepted word is answered exactly once, when its operation completes: at once, or, while a frame is in
flight, at the step that ends it. With no word waiting nothing is answered. -/
def Obligations.OneResponsePerOperation : Prop :=
  ∀ s t : State, rstAsserted s = false → step s = .next t →
    (s.busy = false → s.cmdIn = [] → t.rsp = s.rsp ∧ t.rspLog = s.rspLog) ∧
    (s.busy = true ∨ s.cmdIn ≠ [] →
      (t.busy = true ∧ t.rsp = s.rsp ∧ t.rspLog = s.rspLog) ∨
      (t.busy = false ∧ t.rspLog = s.rspLog ++ [t.rsp]))

/-- R77, R78: a new response has one of the five codes, its DATA is 0 unless the status is OK, and also 0 unless the
operation taken was GET_PIXEL or GET_LENGTH. -/
def Obligations.ResponseForm : Prop :=
  ∀ s t : State, rstAsserted s = false → step s = .next t → t.rspLog ≠ s.rspLog →
    t.rsp.status.toNat ≤ 4 ∧ (t.rsp.status ≠ 0 → t.rsp.data = 0) ∧
    (t.rsp.data ≠ 0 → s.busy = false ∧ ∃ w ws i, s.cmdIn = w :: ws ∧ decode w = .op i ∧
      (i.opcode = .getPixel ∨ i.opcode = .getLength))

/-! ## Configuration operations -/

/-- INIT succeeds (R100): the whole state it leaves. Consuming the listed answer, or numbering the free one, is the
model's (log 1). -/
def Obligations.InitSucceeds : Prop :=
  ∀ (s : State) (pin : Byte) (n : Word32), s.cfg = .unconfigured → n.toNat ≤ s.hw.maxLen → initOk s = true →
    exec (.init pin n) s = .next (answered 0x00 0
      { s with
        len := n, pin := pin, pb := List.replicate n.toNat ⟨0, 0, 0⟩
        phase := .data, busy := false, cur := 0, txerr := false, dout := .low, cfg := .ready
        shown := List.replicate n.toNat none
        initOkIn := s.initOkIn.tail
        drawn := if s.initOkIn = [] then s.drawn + 1 else s.drawn })

/-- R151: an INIT whose length is above MAX_LEN or whose draw is false leaves CFG = FAILED and nothing else, answered
INIT_FAULT; no other operation answers INIT_FAULT; from FAILED every operation answers BAD_STATE. -/
def Obligations.InitializationFault : Prop :=
  (∀ (s : State) (pin : Byte) (n : Word32), s.cfg = .unconfigured → (s.hw.maxLen < n.toNat ∨ initOk s = false) →
    exec (.init pin n) s = .next (answered 0x01 0
      { s with
        cfg := .failed
        initOkIn := s.initOkIn.tail
        drawn := if s.initOkIn = [] then s.drawn + 1 else s.drawn })) ∧
  (∀ s t : State, rstAsserted s = false → step s = .next t → t.rspLog ≠ s.rspLog → t.rsp.status = 0x01 →
    ∃ w ws pin n, s.cmdIn = w :: ws ∧ decode w = .op (.init pin n) ∧ s.cfg = .unconfigured) ∧
  (∀ (s : State) (i : Instr), s.cfg = .failed → exec i s = .next (answered 0x03 0 s))

/-- GET_LENGTH (R101): `respond(OK, LEN)` and nothing else. -/
def Obligations.GetLengthAnswersLen : Prop :=
  ∀ s : State, s.cfg = .ready → exec .getLength s = .next (answered 0x00 s.len s)

/-! ## Pixel operations -/

/-- SET_PIXEL inside `[0, LEN)` (R110, R51): the whole entry is overwritten, nothing else but the response changes. -/
def Obligations.SetPixelWritesEntry : Prop :=
  ∀ (s : State) (i : Int) (r g b : Byte), s.cfg = .ready → Memory.wf s = true → 0 ≤ i → i < s.len.toNat →
    exec (.setPixel i r g b) s = .next (answered 0x00 0 { s with pb := s.pb.set i.toNat ⟨r, g, b⟩ })

/-- R52, R53: outside `[0, LEN)`, below zero or at LEN and above, a write does nothing and a read gives the zero
pixel; both answer OK. -/
def Obligations.OutOfRangeIsNoFault : Prop :=
  ∀ (s : State) (i : Int) (r g b : Byte), s.cfg = .ready → (i < 0 ∨ (s.len.toNat : Int) ≤ i) →
    exec (.setPixel i r g b) s = .next (answered 0x00 0 s) ∧ exec (.getPixel i) s = .next (answered 0x00 0 s)

/-- SET_ALL (R111): every one of the LEN entries, and nothing else but the response. -/
def Obligations.SetAllFillsBuffer : Prop :=
  ∀ (s : State) (r g b : Byte), s.cfg = .ready → Memory.wf s = true →
    exec (.setAll r g b) s = .next (answered 0x00 0 { s with pb := List.replicate s.len.toNat ⟨r, g, b⟩ })

/-- GET_PIXEL inside `[0, LEN)` (R112, R77): the entry, red in 23:16, green in 15:8, blue in 7:0, zero above. -/
def Obligations.GetPixelAnswersEntry : Prop :=
  ∀ (s : State) (i : Int), s.cfg = .ready → Memory.wf s = true → 0 ≤ i → i < s.len.toNat →
    ∃ (p : Pixel) (d : Word32), s.pb[i.toNat]? = some p ∧
      d.toNat = p.r.toNat * 2 ^ 16 + p.g.toNat * 2 ^ 8 + p.b.toNat ∧
      exec (.getPixel i) s = .next (answered 0x00 d s)

/-- R61 with the properties of R110 and R111: a read gives the latest write to its index, whatever the other
operations wrote; other indices keep what they had. -/
def Obligations.ReadGivesLatestWrite : Prop :=
  ∀ (s : State) (r g b : Byte) (j : Int), s.cfg = .ready → Memory.wf s = true → 0 ≤ j → j < s.len.toNat →
    (∀ i : Int, ∃ t u v : State, exec (.setPixel i r g b) s = .next t ∧ exec (.getPixel j) t = .next u ∧
      exec (.getPixel j) s = .next v ∧
      u.rsp = if i = j then ⟨0x00, (Pixel.mk r g b).datum⟩ else v.rsp) ∧
    (∃ t u : State, exec (.setAll r g b) s = .next t ∧ exec (.getPixel j) t = .next u ∧
      u.rsp = ⟨0x00, (Pixel.mk r g b).datum⟩)

/-- What the four operations that do not transmit leave unchanged (R60, R62): whatever they answer, the line, the
observations of it, the encoder, CFG, LEN, PIN and the inputs are as before; the two reads leave PB too; and a
SET_PIXEL leaves every entry but the one its index names. -/
def Obligations.BufferOperationsFrame : Prop :=
  ∀ (s t : State) (i : Instr), i.opcode = .setPixel ∨ i.opcode = .setAll ∨ i.opcode = .getPixel ∨ i.opcode = .getLength →
    exec i s = .next t →
    t = { s with pb := t.pb, rsp := t.rsp, rspLog := t.rspLog } ∧
    (i.opcode = .getPixel ∨ i.opcode = .getLength → t.pb = s.pb) ∧
    (∀ x r g b, i = .setPixel x r g b → ∀ j : Nat, (j : Int) ≠ x → t.pb[j]? = s.pb[j]?)

/-- R60: writing the same again leaves the same buffer, and reading again gives the same answer. -/
def Obligations.RepeatedAccessIsIdempotent : Prop :=
  ∀ (s t u : State) (i : Instr), i.opcode = .setPixel ∨ i.opcode = .setAll ∨ i.opcode = .getPixel ∨ i.opcode = .getLength →
    exec i s = .next t → exec i t = .next u → u.pb = t.pb ∧ u.rsp = t.rsp

/-! ## Transmitting operations -/

/-- PRESENT accepted (R120, R124, R131): the snapshot, the frame's draw, and frame start; no response yet. That the
frame's `tx_fault` (R136) is drawn here, and how draws are listed and numbered, is the model's (log 1, log 5). -/
def Obligations.PresentStartsFrame : Prop :=
  ∀ s : State, s.cfg = .ready →
    exec .present s = .next
      { s with
        frame := frameBytes s.hw.wireOrder s.pb
        cur := 0, txerr := false, phase := .data, busy := true
        txFault := nextTxFault s
        txFaultIn := s.txFaultIn.tail
        drawn := if s.txFaultIn = [] then s.drawn + 1 else s.drawn }

/-- CLEAR accepted (R121): "`set_all(0,0,0)`" first, then exactly as PRESENT; the whole state it leaves. That the
frame's `tx_fault` (R136) is drawn here, at frame start, and how draws are listed and numbered, is the model's
(log 1, log 5). -/
def Obligations.ClearZeroesThenPresents : Prop :=
  ∀ s : State, s.cfg = .ready → Memory.wf s = true →
    exec .clear s = exec .present { s with pb := List.replicate s.len.toNat ⟨0, 0, 0⟩ } ∧
    exec .clear s = .next
      { s with
        pb := List.replicate s.len.toNat ⟨0, 0, 0⟩
        frame := List.replicate (3 * s.len.toNat) 0
        cur := 0, txerr := false, phase := .data, busy := true
        txFault := nextTxFault s
        txFaultIn := s.txFaultIn.tail
        drawn := if s.txFaultIn = [] then s.drawn + 1 else s.drawn }

/-- R124, R55: the frame both operations build, byte by byte in wire order, 3 bytes a pixel, with PB as it is after
CLEAR's own write. -/
def Obligations.BuildFrameBytes : Prop :=
  ∀ s : State, s.cfg = .ready → Memory.wf s = true →
    (∃ t, exec .present s = .next t ∧ t.pb = s.pb ∧ t.frame.length = 3 * s.len.toNat ∧
      ∀ i : Nat, i < s.len.toNat → ∃ p, s.pb[i]? = some p ∧
        t.frame[3 * i]? = some (p.chan s.hw.wireOrder.channels.1) ∧
        t.frame[3 * i + 1]? = some (p.chan s.hw.wireOrder.channels.2.1) ∧
        t.frame[3 * i + 2]? = some (p.chan s.hw.wireOrder.channels.2.2)) ∧
    (∃ t, exec .clear s = .next t ∧ t.pb = List.replicate s.len.toNat ⟨0, 0, 0⟩ ∧
      t.frame = List.replicate (3 * s.len.toNat) 0)

/-- R131: a frame starts only from BUSY = 0, by a PRESENT or a CLEAR in READY, with CUR 0, TXERR 0 and PHASE DATA;
while one is in flight no step takes another snapshot or turns the cursor back. -/
def Obligations.FramesNeverOverlap : Prop :=
  ∀ s t : State, rstAsserted s = false → step s = .next t → t.busy = true →
    (s.busy = false → s.cfg = .ready ∧ t.cur = 0 ∧ t.txerr = false ∧ t.phase = .data ∧
      t.frame = frameBytes t.hw.wireOrder t.pb ∧
      ∃ w ws i, s.cmdIn = w :: ws ∧ decode w = .op i ∧ (i = .present ∨ i = .clear)) ∧
    (s.busy = true → t.frame = s.frame ∧ s.cur ≤ t.cur)

/-! ## The encoder -/

/-- R132: the DATA step sends one bit, most significant of its byte first, as one pulse pair. -/
def Obligations.DataStepSendsBit : Prop :=
  ∀ (s : State) (v : Byte), rstAsserted s = false → s.busy = true → s.phase = .data → s.cur < 24 * s.len.toNat →
    s.txFault ≠ some s.cur → s.frame[s.cur / 8]? = some v →
    step s = .next
      { s with
        rstIn := s.rstIn.tail
        cur := s.cur + 1
        dout := .low
        trace := s.trace ++
          if v.getLsbD (7 - s.cur % 8) = true then [⟨.high, s.hw.t1h⟩, ⟨.low, s.hw.t1l⟩]
          else [⟨.high, s.hw.t0h⟩, ⟨.low, s.hw.t0l⟩] }

/-- R133: with all frame bits sent the encoder goes to LATCH and emits nothing; with LEN = 0 at once. -/
def Obligations.DataToLatch : Prop :=
  ∀ s : State, rstAsserted s = false → s.busy = true → s.phase = .data → s.cur = 24 * s.len.toNat →
    s.txFault ≠ some s.cur → step s = .next { s with rstIn := s.rstIn.tail, phase := .latch }

/-- R134: the LATCH step emits the latch, counts the frame, shows the pixels FRAME was built from or, after a
transmission fault, leaves every entry unspecified, and ends the frame; the response it releases is R120's. The SHOWN
clause assumes a conforming strip (log 7, 92_eei_decisions.md D32), and that FRAME, CUR and the draw stay as they were
once the frame has ended is the model's (log 13, V5). -/
def Obligations.LatchStepEndsFrame : Prop :=
  ∀ (s : State) (pixels : List Pixel), rstAsserted s = false → s.busy = true → s.phase = .latch →
    s.frame = frameBytes s.hw.wireOrder pixels →
    step s = .next (answered (if s.txerr = true then 0x02 else 0x00) 0
      { s with
        rstIn := s.rstIn.tail
        trace := s.trace ++ [⟨.low, s.hw.tLatch⟩]
        dout := .low
        nframes := s.nframes + 1
        shown := if s.txerr = true then List.replicate s.len.toNat none else pixels.map some
        phase := .data
        busy := false })

/-- R135: where the environment's draw falls on the cursor, at any value from 0 to 24 * LEN, the fault step sets
TXERR, goes to LATCH and sends nothing; and the step after it is the LATCH step: the line low for T_LATCH, the frame
ended, the response TX_FAULT, every SHOWN entry unspecified (R134). That the frame is cut between pulse pairs and
closed with the latch is the spec's own choice, which the model follows (log 10, 92_eei_decisions.md D18, D19); what
FRAME, CUR, TXERR and the draw hold afterwards is the model's (log 13). -/
def Obligations.FaultStepCutsFrame : Prop :=
  ∀ s : State, quietFor 2 s → s.busy = true → s.phase = .data → s.txerr = false →
    s.cur ≤ 24 * s.len.toNat → s.txFault = some s.cur →
    step s = .next { s with rstIn := s.rstIn.tail, txerr := true, phase := .latch } ∧
    runFor 2 s = .next (answered 0x02 0
      { s with
        rstIn := s.rstIn.drop 2
        txerr := true
        trace := s.trace ++ [⟨.low, s.hw.tLatch⟩]
        dout := .low
        nframes := s.nframes + 1
        shown := List.replicate s.len.toNat none
        phase := .data
        busy := false })

/-- R138: `ByteSyms` gives 16 segments and `LatchSym` one, whatever the byte and the constants; and eight DATA steps
from a byte boundary append exactly the symbols of that byte. -/
def Obligations.EightStepsSendByte : Prop :=
  (∀ (hw : Config) (v : Byte), (byteSyms hw v).length = 16 ∧ (latchSym hw).length = 1) ∧
  (∀ (s : State) (v : Byte), quietFor 8 s → s.busy = true → s.phase = .data → s.cur % 8 = 0 →
    s.cur + 8 ≤ 24 * s.len.toNat → (∀ k, s.cur ≤ k → k < s.cur + 8 → s.txFault ≠ some k) →
    s.frame[s.cur / 8]? = some v →
    runFor 8 s = .next
      { s with rstIn := s.rstIn.drop 8, cur := s.cur + 8, dout := .low, trace := s.trace ++ byteSyms s.hw v })

/-- The big step of PRESENT without a transmission fault (R139, R120), `n` the frame's bits: exactly `Train(FRAME)` is
appended, the strip shows the buffer, the response is OK, and PB, LEN, CFG and PIN are unchanged. The number of steps
and the draw at frame start are those of the model's small steps (log 5), the SHOWN clause assumes a conforming strip
(log 7), and what FRAME, CUR, TXERR and the draw hold afterwards is the model's (log 13). -/
def Obligations.PresentDeliversTrain : Prop :=
  ∀ (s : State) (ws : List Command) (n : Nat), s.Inv → s.cfg = .ready → n = 24 * s.len.toNat → quietFor (n + 3) s →
    offers s (encode .present) ws → (∀ k, k ≤ n → nextTxFault s ≠ some k) →
    runFor (n + 3) s = .next
      (afterFrame s ws (n + 3) s.pb (train s.hw (frameBytes s.hw.wireOrder s.pb)) n false)

/-- The big step of CLEAR without a transmission fault (R139, R121), `n` the frame's bits: the buffer is black and the
train is `n` zero bits and the latch, one frame. The number of steps and the draw at frame start are those of the
model's small steps (log 5), the SHOWN clause assumes a conforming strip (log 7), and what FRAME, CUR, TXERR and the
draw hold afterwards is the model's (log 13). -/
def Obligations.ClearDeliversBlackFrame : Prop :=
  ∀ (s : State) (ws : List Command) (n : Nat), s.Inv → s.cfg = .ready → n = 24 * s.len.toNat → quietFor (n + 3) s →
    offers s (encode .clear) ws → (∀ k, k ≤ n → nextTxFault s ≠ some k) →
    runFor (n + 3) s = .next
      (afterFrame s ws (n + 3) (List.replicate s.len.toNat ⟨0, 0, 0⟩)
        ((List.replicate n [⟨.high, s.hw.t0h⟩, ⟨.low, s.hw.t0l⟩]).flatten ++ [⟨.low, s.hw.tLatch⟩]) n false)

/-- The big step of PRESENT and CLEAR with the draw `at(k)` (R139, R142): the first `2 * k` segments of the train, then
the latch; every SHOWN entry unspecified, response TX_FAULT; for CLEAR the buffer is black all the same. The prefix in
whole pulse pairs and the closing latch are the spec's own choices (log 10, 92_eei_decisions.md D18, D19), the number
of steps and the draw at frame start are those of the model's small steps (log 5), and what FRAME, CUR, TXERR and the
draw hold afterwards is the model's (log 13). -/
def Obligations.FaultedFrameIsPrefixAndLatch : Prop :=
  ∀ (s : State) (ws : List Command) (k : Nat), s.Inv → s.cfg = .ready → k ≤ 24 * s.len.toNat →
    quietFor (k + 3) s → nextTxFault s = some k →
    (offers s (encode .present) ws →
      runFor (k + 3) s = .next
        (afterFrame s ws (k + 3) s.pb (faultedTrain s.hw (frameBytes s.hw.wireOrder s.pb) k) k true)) ∧
    (offers s (encode .clear) ws →
      runFor (k + 3) s = .next
        (afterFrame s ws (k + 3) (List.replicate s.len.toNat ⟨0, 0, 0⟩)
          (faultedTrain s.hw (frameBytes s.hw.wireOrder (List.replicate s.len.toNat ⟨0, 0, 0⟩)) k) k true))

/-- R143: from every state of the invariant with a frame in flight, the frame ends within `24 * LEN + 2` steps, one
frame more is counted, and exactly one response, OK or TX_FAULT, is delivered. That the hardware's confirmation, or
the verdict that it is late, always arrives is the spec's own decision, which the model follows (log 9,
92_eei_decisions.md D20); the number of steps is that of the model's small steps (log 5). -/
def Obligations.EveryFrameEnds : Prop :=
  ∀ s : State, s.Inv → s.busy = true → quietFor (24 * s.len.toNat + 2) s →
    ∃ (n : Nat) (t : State), n ≤ 24 * s.len.toNat + 2 ∧ runFor n s = .next t ∧ t.busy = false ∧ t.phase = .data ∧
      t.nframes = s.nframes + 1 ∧ t.rspLog = s.rspLog ++ [t.rsp] ∧ (t.rsp = ⟨0x00, 0⟩ ∨ t.rsp = ⟨0x02, 0⟩)

/-- R63: while a frame is in flight neither PB nor what waits at the command port has any part in a step, and the step
leaves both as they are (the hold of R175). -/
def Obligations.FrameIsIsolatedFromBuffer : Prop :=
  ∀ s t : State, rstAsserted s = false → s.busy = true → step s = .next t →
    t.pb = s.pb ∧ t.cmdIn = s.cmdIn ∧ t.cfg = s.cfg ∧ t.len = s.len ∧ t.pin = s.pin ∧ t.frame = s.frame ∧
    ∀ (pb : List Pixel) (cmds : List Command),
      step { s with pb := pb, cmdIn := cmds } = .next { t with pb := pb, cmdIn := cmds }

/-- R140, R29: between frames, what an earlier frame left in FRAME, CUR, TXERR and the draw has no part in a step: the
step answers the same but for those four, and a frame that starts starts the same in these too. -/
def Obligations.EarlierFramesLeaveNoTrace : Prop :=
  ∀ (s t : State) (f : List Byte) (c : Nat) (e : Bool) (x : Option Nat), rstAsserted s = false → s.busy = false →
    step s = .next t →
    ∃ (f' : List Byte) (c' : Nat) (e' : Bool) (x' : Option Nat),
      step { s with frame := f, cur := c, txerr := e, txFault := x } =
        .next { t with frame := f', cur := c', txerr := e', txFault := x' } ∧
      (t.busy = true → f' = t.frame ∧ c' = t.cur ∧ e' = t.txerr ∧ x' = t.txFault)

/-! ## The wire -/

/-- R86: the encoding is lossless: under the constraints on the durations, equal trains come from equal buffers. -/
def Obligations.TrainIsLossless : Prop :=
  ∀ (hw : Config) (pb pb' : List Pixel), hw.wf →
    train hw (frameBytes hw.wireOrder pb) = train hw (frameBytes hw.wireOrder pb') → pb = pb'

/-- R85, R178: a train of LEN pixels has `48 * LEN + 1` segments and lasts
`n1 * (T1H + T1L) + n0 * (T0H + T0L) + T_LATCH` nanoseconds, `n1` and `n0` its one and zero bits. -/
def Obligations.TrainLengthAndDuration : Prop :=
  ∀ (hw : Config) (pb : List Pixel),
    (train hw (frameBytes hw.wireOrder pb)).length = 48 * pb.length + 1 ∧
    (bitsOf (frameBytes hw.wireOrder pb)).count true + (bitsOf (frameBytes hw.wireOrder pb)).count false = 24 * pb.length ∧
    duration (train hw (frameBytes hw.wireOrder pb)) =
      (bitsOf (frameBytes hw.wireOrder pb)).count true * (hw.t1h + hw.t1l) +
      (bitsOf (frameBytes hw.wireOrder pb)).count false * (hw.t0h + hw.t0l) + hw.tLatch

/-- R31, R84: `Wave` replaces every run of adjacent segments of one level by one segment whose duration is the run's
sum: the trace is cut into runs, one for each segment of the wave in order, each run of that segment's level and
adding up to its duration, and no two adjacent segments of the wave have one level, so that no run could be longer. The
total duration is kept, and the latch merges with the low part of the last bit. -/
def Obligations.WaveMergesLevels : Prop :=
  (∀ t : List Segment,
    (∃ runs : List (List Segment), runs.flatten = t ∧
      List.Forall₂ (fun run g => run ≠ [] ∧ (∀ x ∈ run, x.level = g.level) ∧ g.ns = duration run) runs (wave t)) ∧
    (wave t).IsChain (fun a b => a.level ≠ b.level) ∧ duration (wave t) = duration t) ∧
  (∀ (hw : Config) (f : List Byte) (v : Byte), ∃ front : List Segment,
    wave (train hw (f ++ [v])) =
      front ++ [⟨.low, (if v.getLsbD 0 = true then hw.t1l else hw.t0l) + hw.tLatch⟩])

/-- R87 (informative): a receiver whose windows for the high part are disjoint reads the frame's bits as they were
sent, and stops after the latch. -/
def Obligations.ReceiverReadsFrame : Prop :=
  ∀ (hw : Config) (f : List Byte) (later : List Segment), hw.wf → hw.t0h + hw.tol < hw.t1h - hw.tol →
    receive hw (train hw f ++ later) = some (bitsOf f, later)

/-! ## The whole machine -/

/-- R37: the invariant is kept by every step, from every state that has it. -/
def Obligations.StepKeepsInvariant : Prop :=
  ∀ s t : State, s.Inv → step s = .next t → t.Inv

/-- R159, R75: no step stops the machine: under the invariant every step answers a next state, whatever the command
words, the draws and the reset input. -/
def Obligations.NoStepStops : Prop :=
  ∀ s : State, s.Inv → Safe s

/-- R37 over runs: every reachable state of every instance satisfies the invariant, and no run stops. A corollary of
ResetMeetsInvariant, StepKeepsInvariant and NoStepStops; the waiting inputs of a run are log 1's and log 4's. -/
def Obligations.ReachableStatesAreSafe : Prop :=
  ∀ s : State, Reachable s → s.Inv ∧ Safe s

/-- R24: CFG changes only by INIT from UNCONFIGURED, to READY when it answers OK and to FAILED when it answers
INIT_FAULT, and by reset to UNCONFIGURED. -/
def Obligations.ConfigTransitions : Prop :=
  ∀ s t : State, step s = .next t → t.cfg ≠ s.cfg →
    (rstAsserted s = true ∧ t.cfg = .unconfigured) ∨
    (rstAsserted s = false ∧ s.cfg = .unconfigured ∧
      (∃ w ws pin n, s.cmdIn = w :: ws ∧ decode w = .op (.init pin n)) ∧
      (t.cfg = .ready ∧ t.rsp = ⟨0x00, 0⟩ ∨ t.cfg = .failed ∧ t.rsp = ⟨0x01, 0⟩))

/-- R22: LEN changes only by a successful INIT, to its LENGTH, and by reset; and it stays within MAX_LEN and below
2^31. -/
def Obligations.LengthIsFixed : Prop :=
  ∀ s t : State, s.Inv → step s = .next t →
    t.len.toNat ≤ t.hw.maxLen ∧ t.len.toNat ≤ 2 ^ 31 - 1 ∧
    (t.len ≠ s.len → rstAsserted s = true ∨
      (s.cfg = .unconfigured ∧ t.cfg = .ready ∧
        ∃ w ws pin, s.cmdIn = w :: ws ∧ decode w = .op (.init pin t.len)))

/-- R21: PB is written only by INIT, SET_PIXEL, SET_ALL and CLEAR (and by reset). -/
def Obligations.BufferWriters : Prop :=
  ∀ s t : State, step s = .next t → t.pb ≠ s.pb →
    rstAsserted s = true ∨
    (s.busy = false ∧ ∃ w ws i, s.cmdIn = w :: ws ∧ decode w = .op i ∧
      (i.opcode = .init ∨ i.opcode = .setPixel ∨ i.opcode = .setAll ∨ i.opcode = .clear))

/-- R62: outside a frame nothing is emitted: a step with BUSY = 0 leaves TRACE and NFRAMES, and leaves DOUT and SHOWN
unless it is the INIT that makes the block READY. Where CFG is not READY the level of DOUT is unspecified (R30, V1),
and that it stays the same free value there is the model's (log 3). -/
def Obligations.OnlyFramesReachTheLine : Prop :=
  ∀ s t : State, rstAsserted s = false → s.busy = false → step s = .next t →
    t.trace = s.trace ∧ t.nframes = s.nframes ∧ (t.cfg = s.cfg → t.dout = s.dout ∧ t.shown = s.shown)

/-- R23: PIN is given by INIT and read by nothing: a state with another PIN steps to the same state but for PIN, and
stops where the other stops. -/
def Obligations.PinIsNeverRead : Prop :=
  (∀ (s t : State) (pin : Byte) (n : Word32), exec (.init pin n) s = .next t → t.cfg = .ready → s.cfg = .unconfigured →
    t.pin = pin) ∧
  (∀ (s : State) (p : Byte),
    (∀ t, step s = .next t → ∃ q, step { s with pin := p } = .next { t with pin := q }) ∧
    (∀ f, step s = .fault f → step { s with pin := p } = .fault f))

/-- R31: TRACE is an observation: a step appends to it and nothing reads it, and no more does anything read NFRAMES,
SHOWN or the log of responses. -/
def Obligations.ObservationsAreNeverRead : Prop :=
  ∀ s t : State, rstAsserted s = false → step s = .next t →
    ∃ segs rs, t.trace = s.trace ++ segs ∧ t.rspLog = s.rspLog ++ rs ∧
      ∀ (tr : List Segment) (n : Nat) (sh : List (Option Pixel)) (rl : List Rsp),
        ∃ n' sh', step { s with trace := tr, nframes := n, shown := sh, rspLog := rl } =
          .next { t with trace := tr ++ segs, nframes := n', shown := sh', rspLog := rl ++ rs }

/-- R31: in TRACE there is "one `H(t)` and one `L(t)` per frame bit and one `L(T_LATCH)` per frame". A step without
reset raises the count of high segments by one exactly where it sends a frame bit (in flight before and after, CUR one
further), and NFRAMES by one exactly where a frame ends, and either by nothing otherwise; and the low segments are as
many as the high ones and the frames together, which every step keeps and which holds at reset. -/
def Obligations.TraceCountsBitsAndFrames : Prop :=
  (∀ s t : State, rstAsserted s = false → step s = .next t →
    (t.trace.map Segment.level).count .high = (s.trace.map Segment.level).count .high +
      (if s.busy = true ∧ t.busy = true ∧ t.cur = s.cur + 1 then 1 else 0) ∧
    t.nframes = s.nframes + (if s.busy = true ∧ t.busy = false then 1 else 0)) ∧
  (∀ s t : State, step s = .next t →
    (s.trace.map Segment.level).count .low = (s.trace.map Segment.level).count .high + s.nframes →
    (t.trace.map Segment.level).count .low = (t.trace.map Segment.level).count .high + t.nframes) ∧
  (∀ (hw : Config) (n : Nat), ((State.resetWith hw n).trace.map Segment.level).count .low =
    ((State.resetWith hw n).trace.map Segment.level).count .high + (State.resetWith hw n).nframes)

/-- R35, R6: no step, reset included, writes a constant of the instance. -/
def Obligations.ConstantsAreNeverWritten : Prop :=
  ∀ s t : State, step s = .next t → t.hw = s.hw
end

