-- ==== Sys2Proof/Laws/Decode.lean ====
section
/-! SUPPORT. The fields of a command word, and the opcode map both ways. -/

namespace Sys2Proof

variable (opc : BitVec 8) (a : Word32) (c2 c1 c0 : Byte)

@[simp] theorem opcField_commandWord : opcField (commandWord opc a c2 c1 c0) = opc := by
  apply BitVec.eq_of_getLsbD_eq; intro i hi
  simp only [opcField, commandWord, BitVec.getLsbD_extractLsb', BitVec.getLsbD_append, hi, decide_true, Bool.true_and]
  rw [if_neg (by omega), if_neg (by omega), if_neg (by omega), if_neg (by omega)]
  congr 1; omega

@[simp] theorem aField_commandWord : aField (commandWord opc a c2 c1 c0) = a := by
  apply BitVec.eq_of_getLsbD_eq; intro i hi
  simp only [aField, commandWord, BitVec.getLsbD_extractLsb', BitVec.getLsbD_append, hi, decide_true, Bool.true_and]
  rw [if_neg (by omega), if_neg (by omega), if_neg (by omega), if_pos (by omega)]
  congr 1; omega

@[simp] theorem c2Field_commandWord : c2Field (commandWord opc a c2 c1 c0) = c2 := by
  apply BitVec.eq_of_getLsbD_eq; intro i hi
  simp only [c2Field, commandWord, BitVec.getLsbD_extractLsb', BitVec.getLsbD_append, hi, decide_true, Bool.true_and]
  rw [if_neg (by omega), if_neg (by omega), if_pos (by omega)]
  congr 1; omega

@[simp] theorem c1Field_commandWord : c1Field (commandWord opc a c2 c1 c0) = c1 := by
  apply BitVec.eq_of_getLsbD_eq; intro i hi
  simp only [c1Field, commandWord, BitVec.getLsbD_extractLsb', BitVec.getLsbD_append, hi, decide_true, Bool.true_and]
  rw [if_neg (by omega), if_pos (by omega)]
  congr 1; omega

@[simp] theorem c0Field_commandWord : c0Field (commandWord opc a c2 c1 c0) = c0 := by
  apply BitVec.eq_of_getLsbD_eq; intro i hi
  simp only [c0Field, commandWord, BitVec.getLsbD_extractLsb', BitVec.getLsbD_append, hi, decide_true, Bool.true_and]
  rw [if_pos (by omega)]
  congr 1; omega

/-- A word is the concatenation of its five fields. -/
theorem commandWord_fields (w : Command) :
    commandWord (opcField w) (aField w) (c2Field w) (c1Field w) (c0Field w) = w := by
  apply BitVec.eq_of_getLsbD_eq; intro i hi
  simp only [opcField, aField, c2Field, c1Field, c0Field, commandWord, BitVec.getLsbD_extractLsb', BitVec.getLsbD_append]
  split
  · simp [*]
  · split
    · rw [decide_eq_true (by omega), Bool.true_and]; congr 1; omega
    · split
      · rw [decide_eq_true (by omega), Bool.true_and]; congr 1; omega
      · split
        · rw [decide_eq_true (by omega), Bool.true_and]; congr 1; omega
        · rw [decide_eq_true (by omega), Bool.true_and]; congr 1; omega

@[simp] theorem ofCode_code (o : Opcode) : Opcode.ofCode o.code = some o := by
  cases o <;> decide

/-- The opcode map is exact: a code selects a row only when it is that row's. -/
theorem ofCode_eq_some {c : BitVec 8} {o : Opcode} : Opcode.ofCode c = some o ↔ c = o.code := by
  constructor
  · intro h
    unfold Opcode.ofCode at h
    repeat' split at h
    all_goals first | (cases h; assumption) | cases h
  · rintro rfl; exact ofCode_code o

/-- No row has the code: `OPC` is `0x00` or above `0x07`. -/
theorem ofCode_eq_none {c : BitVec 8} : Opcode.ofCode c = none ↔ c = 0 ∨ 8 ≤ c.toNat := by
  revert c; decide

/-- An integer that a 32-bit two's-complement field can spell is what the field spells. -/
theorem toInt_ofInt_of_fits {i : Int} (h : indexFits i = true) : (BitVec.ofInt 32 i).toInt = i := by
  simp only [indexFits, Bool.and_eq_true, decide_eq_true_eq] at h
  rw [BitVec.toInt_ofInt, Int.bmod_eq_of_le (by norm_num; omega) (by norm_num; omega)]

/-- Every field spells an index that fits. -/
theorem indexFits_toInt (a : Word32) : indexFits a.toInt = true := by
  have h1 := BitVec.le_toInt a
  have h2 := BitVec.toInt_lt (x := a)
  simp only [indexFits, Bool.and_eq_true, decide_eq_true_eq]
  norm_num at h1 h2 ⊢; omega

end Sys2Proof
end

