-- ==== Sys2Proof/Laws/State.lean ====
section
/-! SUPPORT. One lemma per field per update of the state, each true by rfl: no later proof unfolds a record update. -/

namespace Sys2Proof.Machine

variable (s : State)

@[simp] theorem clearTxerr_hw : (clearTxerr s).hw = s.hw := rfl
@[simp] theorem clearTxerr_cfg : (clearTxerr s).cfg = s.cfg := rfl
@[simp] theorem clearTxerr_len : (clearTxerr s).len = s.len := rfl
@[simp] theorem clearTxerr_pin : (clearTxerr s).pin = s.pin := rfl
@[simp] theorem clearTxerr_pb : (clearTxerr s).pb = s.pb := rfl
@[simp] theorem clearTxerr_phase : (clearTxerr s).phase = s.phase := rfl
@[simp] theorem clearTxerr_busy : (clearTxerr s).busy = s.busy := rfl
@[simp] theorem clearTxerr_frame : (clearTxerr s).frame = s.frame := rfl
@[simp] theorem clearTxerr_cur : (clearTxerr s).cur = s.cur := rfl
@[simp] theorem clearTxerr_txerr : (clearTxerr s).txerr = false := rfl
@[simp] theorem clearTxerr_rsp : (clearTxerr s).rsp = s.rsp := rfl
@[simp] theorem clearTxerr_dout : (clearTxerr s).dout = s.dout := rfl
@[simp] theorem clearTxerr_trace : (clearTxerr s).trace = s.trace := rfl
@[simp] theorem clearTxerr_nframes : (clearTxerr s).nframes = s.nframes := rfl
@[simp] theorem clearTxerr_shown : (clearTxerr s).shown = s.shown := rfl
@[simp] theorem clearTxerr_rspLog : (clearTxerr s).rspLog = s.rspLog := rfl
@[simp] theorem clearTxerr_cmdIn : (clearTxerr s).cmdIn = s.cmdIn := rfl
@[simp] theorem clearTxerr_rstIn : (clearTxerr s).rstIn = s.rstIn := rfl
@[simp] theorem clearTxerr_initOkIn : (clearTxerr s).initOkIn = s.initOkIn := rfl
@[simp] theorem clearTxerr_txFaultIn : (clearTxerr s).txFaultIn = s.txFaultIn := rfl
@[simp] theorem clearTxerr_txFault : (clearTxerr s).txFault = s.txFault := rfl
@[simp] theorem clearTxerr_drawn : (clearTxerr s).drawn = s.drawn := rfl

@[simp] theorem setTxerr_hw : (setTxerr s).hw = s.hw := rfl
@[simp] theorem setTxerr_cfg : (setTxerr s).cfg = s.cfg := rfl
@[simp] theorem setTxerr_len : (setTxerr s).len = s.len := rfl
@[simp] theorem setTxerr_pin : (setTxerr s).pin = s.pin := rfl
@[simp] theorem setTxerr_pb : (setTxerr s).pb = s.pb := rfl
@[simp] theorem setTxerr_phase : (setTxerr s).phase = s.phase := rfl
@[simp] theorem setTxerr_busy : (setTxerr s).busy = s.busy := rfl
@[simp] theorem setTxerr_frame : (setTxerr s).frame = s.frame := rfl
@[simp] theorem setTxerr_cur : (setTxerr s).cur = s.cur := rfl
@[simp] theorem setTxerr_txerr : (setTxerr s).txerr = true := rfl
@[simp] theorem setTxerr_rsp : (setTxerr s).rsp = s.rsp := rfl
@[simp] theorem setTxerr_dout : (setTxerr s).dout = s.dout := rfl
@[simp] theorem setTxerr_trace : (setTxerr s).trace = s.trace := rfl
@[simp] theorem setTxerr_nframes : (setTxerr s).nframes = s.nframes := rfl
@[simp] theorem setTxerr_shown : (setTxerr s).shown = s.shown := rfl
@[simp] theorem setTxerr_rspLog : (setTxerr s).rspLog = s.rspLog := rfl
@[simp] theorem setTxerr_cmdIn : (setTxerr s).cmdIn = s.cmdIn := rfl
@[simp] theorem setTxerr_rstIn : (setTxerr s).rstIn = s.rstIn := rfl
@[simp] theorem setTxerr_initOkIn : (setTxerr s).initOkIn = s.initOkIn := rfl
@[simp] theorem setTxerr_txFaultIn : (setTxerr s).txFaultIn = s.txFaultIn := rfl
@[simp] theorem setTxerr_txFault : (setTxerr s).txFault = s.txFault := rfl
@[simp] theorem setTxerr_drawn : (setTxerr s).drawn = s.drawn := rfl

@[simp] theorem respond_hw (st : Status) (d : Word32) : (respond st d s).hw = s.hw := rfl
@[simp] theorem respond_cfg (st : Status) (d : Word32) : (respond st d s).cfg = s.cfg := rfl
@[simp] theorem respond_len (st : Status) (d : Word32) : (respond st d s).len = s.len := rfl
@[simp] theorem respond_pin (st : Status) (d : Word32) : (respond st d s).pin = s.pin := rfl
@[simp] theorem respond_pb (st : Status) (d : Word32) : (respond st d s).pb = s.pb := rfl
@[simp] theorem respond_phase (st : Status) (d : Word32) : (respond st d s).phase = s.phase := rfl
@[simp] theorem respond_busy (st : Status) (d : Word32) : (respond st d s).busy = s.busy := rfl
@[simp] theorem respond_frame (st : Status) (d : Word32) : (respond st d s).frame = s.frame := rfl
@[simp] theorem respond_cur (st : Status) (d : Word32) : (respond st d s).cur = s.cur := rfl
@[simp] theorem respond_txerr (st : Status) (d : Word32) : (respond st d s).txerr = s.txerr := rfl
@[simp] theorem respond_rsp (st : Status) (d : Word32) : (respond st d s).rsp = ⟨st.code, d⟩ := rfl
@[simp] theorem respond_dout (st : Status) (d : Word32) : (respond st d s).dout = s.dout := rfl
@[simp] theorem respond_trace (st : Status) (d : Word32) : (respond st d s).trace = s.trace := rfl
@[simp] theorem respond_nframes (st : Status) (d : Word32) : (respond st d s).nframes = s.nframes := rfl
@[simp] theorem respond_shown (st : Status) (d : Word32) : (respond st d s).shown = s.shown := rfl
@[simp] theorem respond_rspLog (st : Status) (d : Word32) : (respond st d s).rspLog = s.rspLog ++ [⟨st.code, d⟩] := rfl
@[simp] theorem respond_cmdIn (st : Status) (d : Word32) : (respond st d s).cmdIn = s.cmdIn := rfl
@[simp] theorem respond_rstIn (st : Status) (d : Word32) : (respond st d s).rstIn = s.rstIn := rfl
@[simp] theorem respond_initOkIn (st : Status) (d : Word32) : (respond st d s).initOkIn = s.initOkIn := rfl
@[simp] theorem respond_txFaultIn (st : Status) (d : Word32) : (respond st d s).txFaultIn = s.txFaultIn := rfl
@[simp] theorem respond_txFault (st : Status) (d : Word32) : (respond st d s).txFault = s.txFault := rfl
@[simp] theorem respond_drawn (st : Status) (d : Word32) : (respond st d s).drawn = s.drawn := rfl

@[simp] theorem raise_hw (st : Status) : (raise st s).hw = s.hw := rfl
@[simp] theorem raise_cfg (st : Status) : (raise st s).cfg = s.cfg := rfl
@[simp] theorem raise_len (st : Status) : (raise st s).len = s.len := rfl
@[simp] theorem raise_pin (st : Status) : (raise st s).pin = s.pin := rfl
@[simp] theorem raise_pb (st : Status) : (raise st s).pb = s.pb := rfl
@[simp] theorem raise_phase (st : Status) : (raise st s).phase = s.phase := rfl
@[simp] theorem raise_busy (st : Status) : (raise st s).busy = s.busy := rfl
@[simp] theorem raise_frame (st : Status) : (raise st s).frame = s.frame := rfl
@[simp] theorem raise_cur (st : Status) : (raise st s).cur = s.cur := rfl
@[simp] theorem raise_txerr (st : Status) : (raise st s).txerr = s.txerr := rfl
@[simp] theorem raise_rsp (st : Status) : (raise st s).rsp = ⟨st.code, 0⟩ := rfl
@[simp] theorem raise_dout (st : Status) : (raise st s).dout = s.dout := rfl
@[simp] theorem raise_trace (st : Status) : (raise st s).trace = s.trace := rfl
@[simp] theorem raise_nframes (st : Status) : (raise st s).nframes = s.nframes := rfl
@[simp] theorem raise_shown (st : Status) : (raise st s).shown = s.shown := rfl
@[simp] theorem raise_rspLog (st : Status) : (raise st s).rspLog = s.rspLog ++ [⟨st.code, 0⟩] := rfl
@[simp] theorem raise_cmdIn (st : Status) : (raise st s).cmdIn = s.cmdIn := rfl
@[simp] theorem raise_rstIn (st : Status) : (raise st s).rstIn = s.rstIn := rfl
@[simp] theorem raise_initOkIn (st : Status) : (raise st s).initOkIn = s.initOkIn := rfl
@[simp] theorem raise_txFaultIn (st : Status) : (raise st s).txFaultIn = s.txFaultIn := rfl
@[simp] theorem raise_txFault (st : Status) : (raise st s).txFault = s.txFault := rfl
@[simp] theorem raise_drawn (st : Status) : (raise st s).drawn = s.drawn := rfl

@[simp] theorem illegalCommand_hw : (illegalCommand s).hw = s.hw := rfl
@[simp] theorem illegalCommand_cfg : (illegalCommand s).cfg = s.cfg := rfl
@[simp] theorem illegalCommand_len : (illegalCommand s).len = s.len := rfl
@[simp] theorem illegalCommand_pin : (illegalCommand s).pin = s.pin := rfl
@[simp] theorem illegalCommand_pb : (illegalCommand s).pb = s.pb := rfl
@[simp] theorem illegalCommand_phase : (illegalCommand s).phase = s.phase := rfl
@[simp] theorem illegalCommand_busy : (illegalCommand s).busy = s.busy := rfl
@[simp] theorem illegalCommand_frame : (illegalCommand s).frame = s.frame := rfl
@[simp] theorem illegalCommand_cur : (illegalCommand s).cur = s.cur := rfl
@[simp] theorem illegalCommand_txerr : (illegalCommand s).txerr = s.txerr := rfl
@[simp] theorem illegalCommand_rsp : (illegalCommand s).rsp = ⟨0x04, 0⟩ := rfl
@[simp] theorem illegalCommand_dout : (illegalCommand s).dout = s.dout := rfl
@[simp] theorem illegalCommand_trace : (illegalCommand s).trace = s.trace := rfl
@[simp] theorem illegalCommand_nframes : (illegalCommand s).nframes = s.nframes := rfl
@[simp] theorem illegalCommand_shown : (illegalCommand s).shown = s.shown := rfl
@[simp] theorem illegalCommand_rspLog : (illegalCommand s).rspLog = s.rspLog ++ [⟨0x04, 0⟩] := rfl
@[simp] theorem illegalCommand_cmdIn : (illegalCommand s).cmdIn = s.cmdIn := rfl
@[simp] theorem illegalCommand_rstIn : (illegalCommand s).rstIn = s.rstIn := rfl
@[simp] theorem illegalCommand_initOkIn : (illegalCommand s).initOkIn = s.initOkIn := rfl
@[simp] theorem illegalCommand_txFaultIn : (illegalCommand s).txFaultIn = s.txFaultIn := rfl
@[simp] theorem illegalCommand_txFault : (illegalCommand s).txFault = s.txFault := rfl
@[simp] theorem illegalCommand_drawn : (illegalCommand s).drawn = s.drawn := rfl

@[simp] theorem fillPixels_hw (p : Pixel) : (fillPixels p s).hw = s.hw := rfl
@[simp] theorem fillPixels_cfg (p : Pixel) : (fillPixels p s).cfg = s.cfg := rfl
@[simp] theorem fillPixels_len (p : Pixel) : (fillPixels p s).len = s.len := rfl
@[simp] theorem fillPixels_pin (p : Pixel) : (fillPixels p s).pin = s.pin := rfl
@[simp] theorem fillPixels_pb (p : Pixel) : (fillPixels p s).pb = s.pb.map fun _ => p := rfl
@[simp] theorem fillPixels_phase (p : Pixel) : (fillPixels p s).phase = s.phase := rfl
@[simp] theorem fillPixels_busy (p : Pixel) : (fillPixels p s).busy = s.busy := rfl
@[simp] theorem fillPixels_frame (p : Pixel) : (fillPixels p s).frame = s.frame := rfl
@[simp] theorem fillPixels_cur (p : Pixel) : (fillPixels p s).cur = s.cur := rfl
@[simp] theorem fillPixels_txerr (p : Pixel) : (fillPixels p s).txerr = s.txerr := rfl
@[simp] theorem fillPixels_rsp (p : Pixel) : (fillPixels p s).rsp = s.rsp := rfl
@[simp] theorem fillPixels_dout (p : Pixel) : (fillPixels p s).dout = s.dout := rfl
@[simp] theorem fillPixels_trace (p : Pixel) : (fillPixels p s).trace = s.trace := rfl
@[simp] theorem fillPixels_nframes (p : Pixel) : (fillPixels p s).nframes = s.nframes := rfl
@[simp] theorem fillPixels_shown (p : Pixel) : (fillPixels p s).shown = s.shown := rfl
@[simp] theorem fillPixels_rspLog (p : Pixel) : (fillPixels p s).rspLog = s.rspLog := rfl
@[simp] theorem fillPixels_cmdIn (p : Pixel) : (fillPixels p s).cmdIn = s.cmdIn := rfl
@[simp] theorem fillPixels_rstIn (p : Pixel) : (fillPixels p s).rstIn = s.rstIn := rfl
@[simp] theorem fillPixels_initOkIn (p : Pixel) : (fillPixels p s).initOkIn = s.initOkIn := rfl
@[simp] theorem fillPixels_txFaultIn (p : Pixel) : (fillPixels p s).txFaultIn = s.txFaultIn := rfl
@[simp] theorem fillPixels_txFault (p : Pixel) : (fillPixels p s).txFault = s.txFault := rfl
@[simp] theorem fillPixels_drawn (p : Pixel) : (fillPixels p s).drawn = s.drawn := rfl

@[simp] theorem takeInitOk_hw : (takeInitOk s).hw = s.hw := rfl
@[simp] theorem takeInitOk_cfg : (takeInitOk s).cfg = s.cfg := rfl
@[simp] theorem takeInitOk_len : (takeInitOk s).len = s.len := rfl
@[simp] theorem takeInitOk_pin : (takeInitOk s).pin = s.pin := rfl
@[simp] theorem takeInitOk_pb : (takeInitOk s).pb = s.pb := rfl
@[simp] theorem takeInitOk_phase : (takeInitOk s).phase = s.phase := rfl
@[simp] theorem takeInitOk_busy : (takeInitOk s).busy = s.busy := rfl
@[simp] theorem takeInitOk_frame : (takeInitOk s).frame = s.frame := rfl
@[simp] theorem takeInitOk_cur : (takeInitOk s).cur = s.cur := rfl
@[simp] theorem takeInitOk_txerr : (takeInitOk s).txerr = s.txerr := rfl
@[simp] theorem takeInitOk_rsp : (takeInitOk s).rsp = s.rsp := rfl
@[simp] theorem takeInitOk_dout : (takeInitOk s).dout = s.dout := rfl
@[simp] theorem takeInitOk_trace : (takeInitOk s).trace = s.trace := rfl
@[simp] theorem takeInitOk_nframes : (takeInitOk s).nframes = s.nframes := rfl
@[simp] theorem takeInitOk_shown : (takeInitOk s).shown = s.shown := rfl
@[simp] theorem takeInitOk_rspLog : (takeInitOk s).rspLog = s.rspLog := rfl
@[simp] theorem takeInitOk_cmdIn : (takeInitOk s).cmdIn = s.cmdIn := rfl
@[simp] theorem takeInitOk_rstIn : (takeInitOk s).rstIn = s.rstIn := rfl
@[simp] theorem takeInitOk_initOkIn : (takeInitOk s).initOkIn = s.initOkIn.tail := rfl
@[simp] theorem takeInitOk_txFaultIn : (takeInitOk s).txFaultIn = s.txFaultIn := rfl
@[simp] theorem takeInitOk_txFault : (takeInitOk s).txFault = s.txFault := rfl
@[simp] theorem takeInitOk_drawn : (takeInitOk s).drawn = if s.initOkIn.isEmpty then s.drawn + 1 else s.drawn := rfl

@[simp] theorem takeTxFault_hw : (takeTxFault s).hw = s.hw := rfl
@[simp] theorem takeTxFault_cfg : (takeTxFault s).cfg = s.cfg := rfl
@[simp] theorem takeTxFault_len : (takeTxFault s).len = s.len := rfl
@[simp] theorem takeTxFault_pin : (takeTxFault s).pin = s.pin := rfl
@[simp] theorem takeTxFault_pb : (takeTxFault s).pb = s.pb := rfl
@[simp] theorem takeTxFault_phase : (takeTxFault s).phase = s.phase := rfl
@[simp] theorem takeTxFault_busy : (takeTxFault s).busy = s.busy := rfl
@[simp] theorem takeTxFault_frame : (takeTxFault s).frame = s.frame := rfl
@[simp] theorem takeTxFault_cur : (takeTxFault s).cur = s.cur := rfl
@[simp] theorem takeTxFault_txerr : (takeTxFault s).txerr = s.txerr := rfl
@[simp] theorem takeTxFault_rsp : (takeTxFault s).rsp = s.rsp := rfl
@[simp] theorem takeTxFault_dout : (takeTxFault s).dout = s.dout := rfl
@[simp] theorem takeTxFault_trace : (takeTxFault s).trace = s.trace := rfl
@[simp] theorem takeTxFault_nframes : (takeTxFault s).nframes = s.nframes := rfl
@[simp] theorem takeTxFault_shown : (takeTxFault s).shown = s.shown := rfl
@[simp] theorem takeTxFault_rspLog : (takeTxFault s).rspLog = s.rspLog := rfl
@[simp] theorem takeTxFault_cmdIn : (takeTxFault s).cmdIn = s.cmdIn := rfl
@[simp] theorem takeTxFault_rstIn : (takeTxFault s).rstIn = s.rstIn := rfl
@[simp] theorem takeTxFault_initOkIn : (takeTxFault s).initOkIn = s.initOkIn := rfl
@[simp] theorem takeTxFault_txFaultIn : (takeTxFault s).txFaultIn = s.txFaultIn.tail := rfl
@[simp] theorem takeTxFault_txFault : (takeTxFault s).txFault = nextTxFault s := rfl
@[simp] theorem takeTxFault_drawn : (takeTxFault s).drawn = if s.txFaultIn.isEmpty then s.drawn + 1 else s.drawn := rfl

@[simp] theorem emit_hw (g : Segment) : (emit g s).hw = s.hw := rfl
@[simp] theorem emit_cfg (g : Segment) : (emit g s).cfg = s.cfg := rfl
@[simp] theorem emit_len (g : Segment) : (emit g s).len = s.len := rfl
@[simp] theorem emit_pin (g : Segment) : (emit g s).pin = s.pin := rfl
@[simp] theorem emit_pb (g : Segment) : (emit g s).pb = s.pb := rfl
@[simp] theorem emit_phase (g : Segment) : (emit g s).phase = s.phase := rfl
@[simp] theorem emit_busy (g : Segment) : (emit g s).busy = s.busy := rfl
@[simp] theorem emit_frame (g : Segment) : (emit g s).frame = s.frame := rfl
@[simp] theorem emit_cur (g : Segment) : (emit g s).cur = s.cur := rfl
@[simp] theorem emit_txerr (g : Segment) : (emit g s).txerr = s.txerr := rfl
@[simp] theorem emit_rsp (g : Segment) : (emit g s).rsp = s.rsp := rfl
@[simp] theorem emit_dout (g : Segment) : (emit g s).dout = g.level := rfl
@[simp] theorem emit_trace (g : Segment) : (emit g s).trace = s.trace ++ [g] := rfl
@[simp] theorem emit_nframes (g : Segment) : (emit g s).nframes = s.nframes := rfl
@[simp] theorem emit_shown (g : Segment) : (emit g s).shown = s.shown := rfl
@[simp] theorem emit_rspLog (g : Segment) : (emit g s).rspLog = s.rspLog := rfl
@[simp] theorem emit_cmdIn (g : Segment) : (emit g s).cmdIn = s.cmdIn := rfl
@[simp] theorem emit_rstIn (g : Segment) : (emit g s).rstIn = s.rstIn := rfl
@[simp] theorem emit_initOkIn (g : Segment) : (emit g s).initOkIn = s.initOkIn := rfl
@[simp] theorem emit_txFaultIn (g : Segment) : (emit g s).txFaultIn = s.txFaultIn := rfl
@[simp] theorem emit_txFault (g : Segment) : (emit g s).txFault = s.txFault := rfl
@[simp] theorem emit_drawn (g : Segment) : (emit g s).drawn = s.drawn := rfl

@[simp] theorem buildFrame_hw : (buildFrame s).hw = s.hw := rfl
@[simp] theorem buildFrame_cfg : (buildFrame s).cfg = s.cfg := rfl
@[simp] theorem buildFrame_len : (buildFrame s).len = s.len := rfl
@[simp] theorem buildFrame_pin : (buildFrame s).pin = s.pin := rfl
@[simp] theorem buildFrame_pb : (buildFrame s).pb = s.pb := rfl
@[simp] theorem buildFrame_phase : (buildFrame s).phase = s.phase := rfl
@[simp] theorem buildFrame_busy : (buildFrame s).busy = s.busy := rfl
@[simp] theorem buildFrame_frame : (buildFrame s).frame = frameBytes s.hw.wireOrder s.pb := rfl
@[simp] theorem buildFrame_cur : (buildFrame s).cur = s.cur := rfl
@[simp] theorem buildFrame_txerr : (buildFrame s).txerr = s.txerr := rfl
@[simp] theorem buildFrame_rsp : (buildFrame s).rsp = s.rsp := rfl
@[simp] theorem buildFrame_dout : (buildFrame s).dout = s.dout := rfl
@[simp] theorem buildFrame_trace : (buildFrame s).trace = s.trace := rfl
@[simp] theorem buildFrame_nframes : (buildFrame s).nframes = s.nframes := rfl
@[simp] theorem buildFrame_shown : (buildFrame s).shown = s.shown := rfl
@[simp] theorem buildFrame_rspLog : (buildFrame s).rspLog = s.rspLog := rfl
@[simp] theorem buildFrame_cmdIn : (buildFrame s).cmdIn = s.cmdIn := rfl
@[simp] theorem buildFrame_rstIn : (buildFrame s).rstIn = s.rstIn := rfl
@[simp] theorem buildFrame_initOkIn : (buildFrame s).initOkIn = s.initOkIn := rfl
@[simp] theorem buildFrame_txFaultIn : (buildFrame s).txFaultIn = s.txFaultIn := rfl
@[simp] theorem buildFrame_txFault : (buildFrame s).txFault = s.txFault := rfl
@[simp] theorem buildFrame_drawn : (buildFrame s).drawn = s.drawn := rfl

@[simp] theorem startFrame_hw : (startFrame s).hw = s.hw := rfl
@[simp] theorem startFrame_cfg : (startFrame s).cfg = s.cfg := rfl
@[simp] theorem startFrame_len : (startFrame s).len = s.len := rfl
@[simp] theorem startFrame_pin : (startFrame s).pin = s.pin := rfl
@[simp] theorem startFrame_pb : (startFrame s).pb = s.pb := rfl
@[simp] theorem startFrame_phase : (startFrame s).phase = .data := rfl
@[simp] theorem startFrame_busy : (startFrame s).busy = true := rfl
@[simp] theorem startFrame_frame : (startFrame s).frame = s.frame := rfl
@[simp] theorem startFrame_cur : (startFrame s).cur = 0 := rfl
@[simp] theorem startFrame_txerr : (startFrame s).txerr = false := rfl
@[simp] theorem startFrame_rsp : (startFrame s).rsp = s.rsp := rfl
@[simp] theorem startFrame_dout : (startFrame s).dout = s.dout := rfl
@[simp] theorem startFrame_trace : (startFrame s).trace = s.trace := rfl
@[simp] theorem startFrame_nframes : (startFrame s).nframes = s.nframes := rfl
@[simp] theorem startFrame_shown : (startFrame s).shown = s.shown := rfl
@[simp] theorem startFrame_rspLog : (startFrame s).rspLog = s.rspLog := rfl
@[simp] theorem startFrame_cmdIn : (startFrame s).cmdIn = s.cmdIn := rfl
@[simp] theorem startFrame_rstIn : (startFrame s).rstIn = s.rstIn := rfl
@[simp] theorem startFrame_initOkIn : (startFrame s).initOkIn = s.initOkIn := rfl
@[simp] theorem startFrame_txFaultIn : (startFrame s).txFaultIn = s.txFaultIn := rfl
@[simp] theorem startFrame_txFault : (startFrame s).txFault = s.txFault := rfl
@[simp] theorem startFrame_drawn : (startFrame s).drawn = s.drawn := rfl

@[simp] theorem beginFrame_hw : (beginFrame s).hw = s.hw := rfl
@[simp] theorem beginFrame_cfg : (beginFrame s).cfg = s.cfg := rfl
@[simp] theorem beginFrame_len : (beginFrame s).len = s.len := rfl
@[simp] theorem beginFrame_pin : (beginFrame s).pin = s.pin := rfl
@[simp] theorem beginFrame_pb : (beginFrame s).pb = s.pb := rfl
@[simp] theorem beginFrame_phase : (beginFrame s).phase = .data := rfl
@[simp] theorem beginFrame_busy : (beginFrame s).busy = true := rfl
@[simp] theorem beginFrame_frame : (beginFrame s).frame = frameBytes s.hw.wireOrder s.pb := rfl
@[simp] theorem beginFrame_cur : (beginFrame s).cur = 0 := rfl
@[simp] theorem beginFrame_txerr : (beginFrame s).txerr = false := rfl
@[simp] theorem beginFrame_rsp : (beginFrame s).rsp = s.rsp := rfl
@[simp] theorem beginFrame_dout : (beginFrame s).dout = s.dout := rfl
@[simp] theorem beginFrame_trace : (beginFrame s).trace = s.trace := rfl
@[simp] theorem beginFrame_nframes : (beginFrame s).nframes = s.nframes := rfl
@[simp] theorem beginFrame_shown : (beginFrame s).shown = s.shown := rfl
@[simp] theorem beginFrame_rspLog : (beginFrame s).rspLog = s.rspLog := rfl
@[simp] theorem beginFrame_cmdIn : (beginFrame s).cmdIn = s.cmdIn := rfl
@[simp] theorem beginFrame_rstIn : (beginFrame s).rstIn = s.rstIn := rfl
@[simp] theorem beginFrame_initOkIn : (beginFrame s).initOkIn = s.initOkIn := rfl
@[simp] theorem beginFrame_txFaultIn : (beginFrame s).txFaultIn = s.txFaultIn.tail := rfl
@[simp] theorem beginFrame_txFault : (beginFrame s).txFault = nextTxFault s := rfl
@[simp] theorem beginFrame_drawn : (beginFrame s).drawn = if s.txFaultIn.isEmpty then s.drawn + 1 else s.drawn := rfl

@[simp] theorem finishFrame_hw : (finishFrame s).hw = s.hw := rfl
@[simp] theorem finishFrame_cfg : (finishFrame s).cfg = s.cfg := rfl
@[simp] theorem finishFrame_len : (finishFrame s).len = s.len := rfl
@[simp] theorem finishFrame_pin : (finishFrame s).pin = s.pin := rfl
@[simp] theorem finishFrame_pb : (finishFrame s).pb = s.pb := rfl
@[simp] theorem finishFrame_phase : (finishFrame s).phase = .data := rfl
@[simp] theorem finishFrame_busy : (finishFrame s).busy = false := rfl
@[simp] theorem finishFrame_frame : (finishFrame s).frame = s.frame := rfl
@[simp] theorem finishFrame_cur : (finishFrame s).cur = s.cur := rfl
@[simp] theorem finishFrame_txerr : (finishFrame s).txerr = s.txerr := rfl
@[simp] theorem finishFrame_rsp : (finishFrame s).rsp = ⟨(frameStatus s).code, 0⟩ := rfl
@[simp] theorem finishFrame_dout : (finishFrame s).dout = s.dout := rfl
@[simp] theorem finishFrame_trace : (finishFrame s).trace = s.trace := rfl
@[simp] theorem finishFrame_nframes : (finishFrame s).nframes = s.nframes + 1 := rfl
@[simp] theorem finishFrame_shown : (finishFrame s).shown = shownAfter s := rfl
@[simp] theorem finishFrame_rspLog : (finishFrame s).rspLog = s.rspLog ++ [⟨(frameStatus s).code, 0⟩] := rfl
@[simp] theorem finishFrame_cmdIn : (finishFrame s).cmdIn = s.cmdIn := rfl
@[simp] theorem finishFrame_rstIn : (finishFrame s).rstIn = s.rstIn := rfl
@[simp] theorem finishFrame_initOkIn : (finishFrame s).initOkIn = s.initOkIn := rfl
@[simp] theorem finishFrame_txFaultIn : (finishFrame s).txFaultIn = s.txFaultIn := rfl
@[simp] theorem finishFrame_txFault : (finishFrame s).txFault = s.txFault := rfl
@[simp] theorem finishFrame_drawn : (finishFrame s).drawn = s.drawn := rfl

@[simp] theorem configure_hw (pin : Byte) (n : Word32) : (configure pin n s).hw = s.hw := rfl
@[simp] theorem configure_cfg (pin : Byte) (n : Word32) : (configure pin n s).cfg = .ready := rfl
@[simp] theorem configure_len (pin : Byte) (n : Word32) : (configure pin n s).len = n := rfl
@[simp] theorem configure_pin (pin : Byte) (n : Word32) : (configure pin n s).pin = pin := rfl
@[simp] theorem configure_pb (pin : Byte) (n : Word32) : (configure pin n s).pb = List.replicate n.toNat Pixel.black := rfl
@[simp] theorem configure_phase (pin : Byte) (n : Word32) : (configure pin n s).phase = .data := rfl
@[simp] theorem configure_busy (pin : Byte) (n : Word32) : (configure pin n s).busy = false := rfl
@[simp] theorem configure_frame (pin : Byte) (n : Word32) : (configure pin n s).frame = s.frame := rfl
@[simp] theorem configure_cur (pin : Byte) (n : Word32) : (configure pin n s).cur = 0 := rfl
@[simp] theorem configure_txerr (pin : Byte) (n : Word32) : (configure pin n s).txerr = false := rfl
@[simp] theorem configure_rsp (pin : Byte) (n : Word32) : (configure pin n s).rsp = s.rsp := rfl
@[simp] theorem configure_dout (pin : Byte) (n : Word32) : (configure pin n s).dout = .low := rfl
@[simp] theorem configure_trace (pin : Byte) (n : Word32) : (configure pin n s).trace = s.trace := rfl
@[simp] theorem configure_nframes (pin : Byte) (n : Word32) : (configure pin n s).nframes = s.nframes := rfl
@[simp] theorem configure_shown (pin : Byte) (n : Word32) : (configure pin n s).shown = List.replicate n.toNat none := rfl
@[simp] theorem configure_rspLog (pin : Byte) (n : Word32) : (configure pin n s).rspLog = s.rspLog := rfl
@[simp] theorem configure_cmdIn (pin : Byte) (n : Word32) : (configure pin n s).cmdIn = s.cmdIn := rfl
@[simp] theorem configure_rstIn (pin : Byte) (n : Word32) : (configure pin n s).rstIn = s.rstIn := rfl
@[simp] theorem configure_initOkIn (pin : Byte) (n : Word32) : (configure pin n s).initOkIn = s.initOkIn := rfl
@[simp] theorem configure_txFaultIn (pin : Byte) (n : Word32) : (configure pin n s).txFaultIn = s.txFaultIn := rfl
@[simp] theorem configure_txFault (pin : Byte) (n : Word32) : (configure pin n s).txFault = s.txFault := rfl
@[simp] theorem configure_drawn (pin : Byte) (n : Word32) : (configure pin n s).drawn = s.drawn := rfl

@[simp] theorem failInit_hw : (failInit s).hw = s.hw := rfl
@[simp] theorem failInit_cfg : (failInit s).cfg = .failed := rfl
@[simp] theorem failInit_len : (failInit s).len = s.len := rfl
@[simp] theorem failInit_pin : (failInit s).pin = s.pin := rfl
@[simp] theorem failInit_pb : (failInit s).pb = s.pb := rfl
@[simp] theorem failInit_phase : (failInit s).phase = s.phase := rfl
@[simp] theorem failInit_busy : (failInit s).busy = s.busy := rfl
@[simp] theorem failInit_frame : (failInit s).frame = s.frame := rfl
@[simp] theorem failInit_cur : (failInit s).cur = s.cur := rfl
@[simp] theorem failInit_txerr : (failInit s).txerr = s.txerr := rfl
@[simp] theorem failInit_rsp : (failInit s).rsp = s.rsp := rfl
@[simp] theorem failInit_dout : (failInit s).dout = s.dout := rfl
@[simp] theorem failInit_trace : (failInit s).trace = s.trace := rfl
@[simp] theorem failInit_nframes : (failInit s).nframes = s.nframes := rfl
@[simp] theorem failInit_shown : (failInit s).shown = s.shown := rfl
@[simp] theorem failInit_rspLog : (failInit s).rspLog = s.rspLog := rfl
@[simp] theorem failInit_cmdIn : (failInit s).cmdIn = s.cmdIn := rfl
@[simp] theorem failInit_rstIn : (failInit s).rstIn = s.rstIn := rfl
@[simp] theorem failInit_initOkIn : (failInit s).initOkIn = s.initOkIn := rfl
@[simp] theorem failInit_txFaultIn : (failInit s).txFaultIn = s.txFaultIn := rfl
@[simp] theorem failInit_txFault : (failInit s).txFault = s.txFault := rfl
@[simp] theorem failInit_drawn : (failInit s).drawn = s.drawn := rfl

@[simp] theorem takeRst_hw : (takeRst s).hw = s.hw := rfl
@[simp] theorem takeRst_cfg : (takeRst s).cfg = s.cfg := rfl
@[simp] theorem takeRst_len : (takeRst s).len = s.len := rfl
@[simp] theorem takeRst_pin : (takeRst s).pin = s.pin := rfl
@[simp] theorem takeRst_pb : (takeRst s).pb = s.pb := rfl
@[simp] theorem takeRst_phase : (takeRst s).phase = s.phase := rfl
@[simp] theorem takeRst_busy : (takeRst s).busy = s.busy := rfl
@[simp] theorem takeRst_frame : (takeRst s).frame = s.frame := rfl
@[simp] theorem takeRst_cur : (takeRst s).cur = s.cur := rfl
@[simp] theorem takeRst_txerr : (takeRst s).txerr = s.txerr := rfl
@[simp] theorem takeRst_rsp : (takeRst s).rsp = s.rsp := rfl
@[simp] theorem takeRst_dout : (takeRst s).dout = s.dout := rfl
@[simp] theorem takeRst_trace : (takeRst s).trace = s.trace := rfl
@[simp] theorem takeRst_nframes : (takeRst s).nframes = s.nframes := rfl
@[simp] theorem takeRst_shown : (takeRst s).shown = s.shown := rfl
@[simp] theorem takeRst_rspLog : (takeRst s).rspLog = s.rspLog := rfl
@[simp] theorem takeRst_cmdIn : (takeRst s).cmdIn = s.cmdIn := rfl
@[simp] theorem takeRst_rstIn : (takeRst s).rstIn = s.rstIn.tail := rfl
@[simp] theorem takeRst_initOkIn : (takeRst s).initOkIn = s.initOkIn := rfl
@[simp] theorem takeRst_txFaultIn : (takeRst s).txFaultIn = s.txFaultIn := rfl
@[simp] theorem takeRst_txFault : (takeRst s).txFault = s.txFault := rfl
@[simp] theorem takeRst_drawn : (takeRst s).drawn = s.drawn := rfl

@[simp] theorem takeCommand_hw : (takeCommand s).hw = s.hw := rfl
@[simp] theorem takeCommand_cfg : (takeCommand s).cfg = s.cfg := rfl
@[simp] theorem takeCommand_len : (takeCommand s).len = s.len := rfl
@[simp] theorem takeCommand_pin : (takeCommand s).pin = s.pin := rfl
@[simp] theorem takeCommand_pb : (takeCommand s).pb = s.pb := rfl
@[simp] theorem takeCommand_phase : (takeCommand s).phase = s.phase := rfl
@[simp] theorem takeCommand_busy : (takeCommand s).busy = s.busy := rfl
@[simp] theorem takeCommand_frame : (takeCommand s).frame = s.frame := rfl
@[simp] theorem takeCommand_cur : (takeCommand s).cur = s.cur := rfl
@[simp] theorem takeCommand_txerr : (takeCommand s).txerr = s.txerr := rfl
@[simp] theorem takeCommand_rsp : (takeCommand s).rsp = s.rsp := rfl
@[simp] theorem takeCommand_dout : (takeCommand s).dout = s.dout := rfl
@[simp] theorem takeCommand_trace : (takeCommand s).trace = s.trace := rfl
@[simp] theorem takeCommand_nframes : (takeCommand s).nframes = s.nframes := rfl
@[simp] theorem takeCommand_shown : (takeCommand s).shown = s.shown := rfl
@[simp] theorem takeCommand_rspLog : (takeCommand s).rspLog = s.rspLog := rfl
@[simp] theorem takeCommand_cmdIn : (takeCommand s).cmdIn = s.cmdIn.tail := rfl
@[simp] theorem takeCommand_rstIn : (takeCommand s).rstIn = s.rstIn := rfl
@[simp] theorem takeCommand_initOkIn : (takeCommand s).initOkIn = s.initOkIn := rfl
@[simp] theorem takeCommand_txFaultIn : (takeCommand s).txFaultIn = s.txFaultIn := rfl
@[simp] theorem takeCommand_txFault : (takeCommand s).txFault = s.txFault := rfl
@[simp] theorem takeCommand_drawn : (takeCommand s).drawn = s.drawn := rfl

@[simp] theorem applyReset_hw : (applyReset s).hw = s.hw := rfl
@[simp] theorem applyReset_cfg : (applyReset s).cfg = .unconfigured := rfl
@[simp] theorem applyReset_len : (applyReset s).len = 0 := rfl
@[simp] theorem applyReset_pin : (applyReset s).pin = Config.freePin s.drawn := rfl
@[simp] theorem applyReset_pb : (applyReset s).pb = [] := rfl
@[simp] theorem applyReset_phase : (applyReset s).phase = .data := rfl
@[simp] theorem applyReset_busy : (applyReset s).busy = false := rfl
@[simp] theorem applyReset_frame : (applyReset s).frame = [] := rfl
@[simp] theorem applyReset_cur : (applyReset s).cur = 0 := rfl
@[simp] theorem applyReset_txerr : (applyReset s).txerr = false := rfl
@[simp] theorem applyReset_rsp : (applyReset s).rsp = ⟨(Config.freeRsp s.drawn).extractLsb' 32 8, (Config.freeRsp s.drawn).extractLsb' 0 32⟩ := rfl
@[simp] theorem applyReset_dout : (applyReset s).dout = Config.freeLevel s.drawn := rfl
@[simp] theorem applyReset_trace : (applyReset s).trace = [] := rfl
@[simp] theorem applyReset_nframes : (applyReset s).nframes = 0 := rfl
@[simp] theorem applyReset_shown : (applyReset s).shown = [] := rfl
@[simp] theorem applyReset_rspLog : (applyReset s).rspLog = [] := rfl
@[simp] theorem applyReset_cmdIn : (applyReset s).cmdIn = s.cmdIn := rfl
@[simp] theorem applyReset_rstIn : (applyReset s).rstIn = s.rstIn.tail := rfl
@[simp] theorem applyReset_initOkIn : (applyReset s).initOkIn = s.initOkIn := rfl
@[simp] theorem applyReset_txFaultIn : (applyReset s).txFaultIn = s.txFaultIn := rfl
@[simp] theorem applyReset_txFault : (applyReset s).txFault = none := rfl
@[simp] theorem applyReset_drawn : (applyReset s).drawn = s.drawn + 1 := rfl

end Sys2Proof.Machine
end

