-- ==== Sys2Proof/Laws/Wire.lean ====
section
/-! SUPPORT. The wire functions: lengths, the frame read back, and the bits of a frame. -/

namespace Sys2Proof.Machine

@[simp] theorem sym_length (hw : Config) (b : Bool) : (sym hw b).length = 2 := by
  cases b <;> rfl

@[simp] theorem byteBits_length (v : Byte) : (byteBits v).length = 8 := rfl

@[simp] theorem pixelBytes_length (o : WireOrder) (p : Pixel) : (pixelBytes o p).length = 3 := rfl

/-- Each pixel emits exactly three bytes (42_present_ops.md R124). -/
@[simp] theorem frameBytes_length (o : WireOrder) (pb : List Pixel) : (frameBytes o pb).length = 3 * pb.length := by
  induction pb with
  | nil => rfl
  | cons p ps ih => simp only [frameBytes, List.flatMap_cons, List.length_append, pixelBytes_length, List.length_cons] at ih ⊢; omega

theorem frameBytes_cons (o : WireOrder) (p : Pixel) (ps : List Pixel) :
    frameBytes o (p :: ps) = pixelBytes o p ++ frameBytes o ps := rfl

/-- A black buffer's frame is zero bytes, in every wire order. -/
theorem frameBytes_black (o : WireOrder) (n : Nat) :
    frameBytes o (List.replicate n ⟨0, 0, 0⟩) = List.replicate (3 * n) 0 := by
  induction n with
  | zero => rfl
  | succ n ih =>
    rw [List.replicate_succ, frameBytes_cons, ih]
    cases o <;> simp [pixelBytes, WireOrder.channels, Pixel.chan, Nat.mul_succ, List.replicate_succ]

/-- Three wire bytes of a pixel spell that pixel, in each of the six orders. -/
theorem wirePixel_pixelBytes (o : WireOrder) (p : Pixel) :
    wirePixel o (p.chan o.channels.1) (p.chan o.channels.2.1) (p.chan o.channels.2.2) = p := by
  cases o <;> rfl

/-- Reading a frame back gives the buffer it was built from. -/
@[simp] theorem framePixels_frameBytes (o : WireOrder) (pb : List Pixel) : framePixels o (frameBytes o pb) = pb := by
  induction pb with
  | nil => rfl
  | cons p ps ih =>
    rw [frameBytes_cons, pixelBytes]
    simp only [List.cons_append, List.nil_append, framePixels, ih, wirePixel_pixelBytes]

/-- A frame of `3 * n` bytes spells `n` pixels. -/
theorem framePixels_length (o : WireOrder) : ∀ (n : Nat) (f : List Byte), f.length = 3 * n → (framePixels o f).length = n
  | 0, [], _ => rfl
  | n + 1, b0 :: b1 :: b2 :: rest, h => by
    simp only [framePixels, List.length_cons] at h ⊢
    rw [framePixels_length o n rest (by omega)]
  | 0, _ :: _, h => by simp at h
  | n + 1, [], h => by simp at h
  | n + 1, [_], h => by simp only [List.length_cons, List.length_nil] at h; omega
  | n + 1, [_, _], h => by simp only [List.length_cons, List.length_nil] at h; omega

/-- There is a frame bit below the frame's length in bits. -/
theorem frameBit_isSome {f : List Byte} {n : Nat} (h : n < 8 * f.length) : ∃ b, frameBit f n = some b := by
  have h8 : n / 8 < f.length := by omega
  exact ⟨f[n / 8].getLsbD (7 - n % 8), by rw [frameBit, List.getElem?_eq_getElem h8, Option.map_some]⟩

@[simp] theorem bitsOf_length (f : List Byte) : (bitsOf f).length = 8 * f.length := by
  induction f with
  | nil => rfl
  | cons v vs ih => simp only [bitsOf, List.flatMap_cons, List.length_append, byteBits_length, List.length_cons] at ih ⊢; omega

/-- Frame bit `n` is entry `n` of the bits in transmission order. -/
theorem frameBit_eq (f : List Byte) (n : Nat) : frameBit f n = (bitsOf f)[n]? := by
  induction f generalizing n with
  | nil => simp [frameBit, bitsOf]
  | cons v vs ih =>
    have hcons : bitsOf (v :: vs) = byteBits v ++ bitsOf vs := rfl
    by_cases h : n < 8
    · rw [hcons, List.getElem?_append_left (by simpa using h), frameBit]
      have h0 : n / 8 = 0 := by omega
      rw [h0]
      rcases n with _ | _ | _ | _ | _ | _ | _ | _ | n <;> first | rfl | omega
    · rw [hcons, List.getElem?_append_right (by simpa using h), byteBits_length, ← ih, frameBit, frameBit]
      obtain ⟨m, rfl⟩ : ∃ m, n = m + 8 := ⟨n - 8, by omega⟩
      have h1 : (m + 8) / 8 = m / 8 + 1 := by omega
      have h2 : (m + 8) % 8 = m % 8 := by omega
      simp [h1, h2]

/-- A train is the symbols of the frame's bits, then the latch. -/
theorem train_eq (hw : Config) (f : List Byte) : train hw f = (bitsOf f).flatMap (sym hw) ++ latchSym hw := by
  rw [train, bitsOf, List.flatMap_assoc]; rfl

theorem flatMap_sym_length (hw : Config) (bs : List Bool) : (bs.flatMap (sym hw)).length = 2 * bs.length := by
  induction bs with
  | nil => rfl
  | cons b bs ih => simp only [List.flatMap_cons, List.length_append, sym_length, List.length_cons, ih]; omega

/-- The first `2 * k` segments of a train are the symbols of its first `k` bits. -/
theorem train_take (hw : Config) (f : List Byte) (k : Nat) (h : k ≤ 8 * f.length) :
    (train hw f).take (2 * k) = ((bitsOf f).take k).flatMap (sym hw) := by
  rw [train_eq]
  generalize hb : bitsOf f = bs
  have hk : k ≤ bs.length := by rw [← hb, bitsOf_length]; exact h
  clear hb h
  induction k generalizing bs with
  | zero => simp
  | succ k ih =>
    cases bs with
    | nil => simp at hk
    | cons b bs =>
      have h2 : 2 * (k + 1) = (sym hw b).length + 2 * k := by rw [sym_length]; omega
      rw [List.flatMap_cons, List.append_assoc, h2, List.take_length_add_append, List.take_succ_cons, List.flatMap_cons,
        ih bs (by simpa using hk)]

end Sys2Proof.Machine
end

