-- ==== Sys2Proof/Laws/Encoder.lean ====
section
/-! SUPPORT. What the encoder's step can do, said once: each move as one record update, and when it is enabled. -/

namespace Sys2Proof.Machine

/-- R132: two segments and the cursor; the line ends low. -/
theorem applyMove_bit (b : Bool) (s : State) :
    applyMove (.bit b) s = { s with trace := s.trace ++ sym s.hw b, dout := .low, cur := s.cur + 1 } := by
  cases b <;> simp [applyMove, EncMove.effect, EncMove.pulses, emitAll, emit, sym, low, high]

/-- R133: the phase alone. -/
theorem applyMove_toLatch (s : State) : applyMove .toLatch s = { s with phase := .latch } := rfl

/-- R135: the flag and the phase. -/
theorem applyMove_fail (s : State) : applyMove .fail s = { s with txerr := true, phase := .latch } := rfl

/-- R134: one segment, the frame's end, and the response. -/
theorem applyMove_latch (s : State) :
    applyMove .latch s =
      { s with
        trace := s.trace ++ latchSym s.hw
        dout := .low
        nframes := s.nframes + 1
        shown := shownAfter s
        phase := .data
        busy := false
        rsp := ⟨(frameStatus s).code, 0⟩
        rspLog := s.rspLog ++ [⟨(frameStatus s).code, 0⟩] } := rfl

/-- Which move is enabled (R130, R132 to R136). -/
theorem encMove_cases {s : State} {m : EncMove} (h : encMove s = .ok m) :
    (s.phase = .latch ∧ m = .latch) ∨
    (s.phase = .data ∧ s.txFault = some s.cur ∧ s.txerr = false ∧ m = .fail) ∨
    (s.phase = .data ∧ ¬(s.txFault = some s.cur ∧ s.txerr = false) ∧ s.cur < frameBits s ∧
      ∃ b, frameBit s.frame s.cur = some b ∧ m = .bit b) ∨
    (s.phase = .data ∧ ¬(s.txFault = some s.cur ∧ s.txerr = false) ∧ s.cur = frameBits s ∧ m = .toLatch) := by
  unfold encMove at h
  split at h
  · rename_i hp; cases h; exact .inl ⟨hp, rfl⟩
  · rename_i hp
    split at h
    · rename_i hf; cases h; exact .inr (.inl ⟨hp, hf.1, hf.2, rfl⟩)
    · rename_i hf
      split at h
      · rename_i hc
        split at h
        · rename_i b hb; cases h; exact .inr (.inr (.inl ⟨hp, hf, hc, b, hb, rfl⟩))
        · cases h
      · split at h
        · rename_i hc; cases h; exact .inr (.inr (.inr ⟨hp, hf, hc, rfl⟩))
        · cases h

/-- A step of the encoder is an enabled move. -/
theorem encStep_next {s t : State} (h : encStep s = .next t) : ∃ m, encMove s = .ok m ∧ t = applyMove m s := by
  unfold encStep at h
  split at h
  · rename_i m hm; injection h with h; exact ⟨m, hm, h.symm⟩
  · cases h

theorem encMove_latch {s : State} (h : s.phase = .latch) : encMove s = .ok .latch := by
  simp [encMove, h]

theorem encMove_fail {s : State} (h : s.phase = .data) (hf : s.txFault = some s.cur) (he : s.txerr = false) :
    encMove s = .ok .fail := by
  simp [encMove, h, hf, he]

theorem encMove_bit {s : State} {b : Bool} (h : s.phase = .data) (hf : s.txFault ≠ some s.cur)
    (hc : s.cur < frameBits s) (hb : frameBit s.frame s.cur = some b) : encMove s = .ok (.bit b) := by
  simp [encMove, h, hf, hc, hb]

theorem encMove_toLatch {s : State} (h : s.phase = .data) (hf : s.txFault ≠ some s.cur)
    (hc : s.cur = frameBits s) : encMove s = .ok .toLatch := by
  rw [encMove]; simp only [h]; rw [if_neg (fun x => hf x.1), if_neg (by omega), if_pos hc]

end Sys2Proof.Machine
end

