-- ==== Sys2Proof/Laws/Memory.lean ====
section
/-! SUPPORT. The form of PB and LEN (10_state.md R37 a, b) holds at reset and is kept by every operation on them;
reading after writing. -/

namespace Sys2Proof.Machine

theorem Memory.wf_iff (s : State) :
    Memory.wf s = true ↔
      (s.cfg = .ready → s.pb.length = s.len.toNat) ∧ (s.cfg ≠ .ready → s.len = 0 ∧ s.pb = []) := by
  by_cases h : s.cfg = .ready <;> simp [Memory.wf, h]

/-- The form depends on CFG, LEN and PB alone. -/
theorem Memory.wf_congr {s t : State} (hc : t.cfg = s.cfg) (hl : t.len = s.len) (hp : t.pb = s.pb) :
    Memory.wf t = Memory.wf s := by
  simp [Memory.wf, hc, hl, hp]

theorem Memory.wf_resetWith (hw : Config) (n : Nat) : Memory.wf (State.resetWith hw n) = true := rfl

theorem Memory.wf_reset : Memory.wf State.reset = true := rfl

theorem Memory.wf_applyReset (s : State) : Memory.wf (applyReset s) = true := rfl

theorem Memory.wf_respond (st : Status) (d : Word32) (s : State) : Memory.wf (respond st d s) = Memory.wf s := rfl

theorem Memory.wf_beginFrame (s : State) : Memory.wf (beginFrame s) = Memory.wf s := rfl

theorem Memory.wf_finishFrame (s : State) : Memory.wf (finishFrame s) = Memory.wf s := rfl

theorem Memory.wf_configure (pin : Byte) (n : Word32) (s : State) : Memory.wf (configure pin n s) = true := by
  simp [Memory.wf]

theorem Memory.wf_failInit {s : State} (h : Memory.wf s = true) (hc : s.cfg = .unconfigured) :
    Memory.wf (failInit s) = true := by
  have h2 := ((Memory.wf_iff s).1 h).2 (by simp [hc])
  simp [Memory.wf, h2.1, h2.2]

theorem Memory.wf_fillPixels (p : Pixel) {s : State} (h : Memory.wf s = true) : Memory.wf (fillPixels p s) = true := by
  rw [Memory.wf_iff] at h ⊢
  simpa using h

theorem Memory.wf_storePixel {i : Int} {p : Pixel} {s t : State} (h : Memory.wf s = true)
    (ht : storePixel i p s = .ok t) : Memory.wf t = true := by
  unfold storePixel at ht
  split at ht
  · split at ht
    · cases ht
      rw [Memory.wf_iff] at h ⊢
      refine ⟨fun hc => by simpa using h.1 hc, fun hc => ⟨(h.2 hc).1, ?_⟩⟩
      simp [(h.2 hc).2]
    · cases ht
  · cases ht; exact h

/-! ## Reading and writing one pixel -/

theorem inRange_iff {i : Int} {s : State} : inRange i s = true ↔ 0 ≤ i ∧ i < (s.len.toNat : Int) := by
  simp [inRange]

/-- Outside `[0, LEN)` a read gives the zero pixel (20_memory.md R53). -/
theorem loadPixel_outside {i : Int} {s : State} (h : inRange i s = false) : loadPixel i s = .ok Pixel.black := by
  simp [loadPixel, h]

/-- Outside `[0, LEN)` a write does nothing (20_memory.md R52). -/
theorem storePixel_outside {i : Int} {p : Pixel} {s : State} (h : inRange i s = false) : storePixel i p s = .ok s := by
  simp [storePixel, h]

/-- Inside `[0, LEN)` a read gives the entry, where PB has its LEN entries. -/
theorem loadPixel_inside {i : Int} {s : State} (h : inRange i s = true) (hl : s.pb.length = s.len.toNat) :
    ∃ hi : i.toNat < s.pb.length, loadPixel i s = .ok s.pb[i.toNat] := by
  have hi : i.toNat < s.pb.length := by have := inRange_iff.1 h; omega
  exact ⟨hi, by simp [loadPixel, h, List.getElem?_eq_getElem hi]⟩

/-- Inside `[0, LEN)` a write sets that entry, where PB has its LEN entries. -/
theorem storePixel_inside {i : Int} {p : Pixel} {s : State} (h : inRange i s = true)
    (hl : s.pb.length = s.len.toNat) : storePixel i p s = .ok { s with pb := s.pb.set i.toNat p } := by
  have hi : i.toNat < s.pb.length := by have := inRange_iff.1 h; omega
  simp [storePixel, h, hi]

/-- Everything a write can do: nothing, or one entry. -/
theorem storePixel_cases {i : Int} {p : Pixel} {s t : State} (h : storePixel i p s = .ok t) :
    t = s ∨ (inRange i s = true ∧ i.toNat < s.pb.length ∧ t = { s with pb := s.pb.set i.toNat p }) := by
  unfold storePixel at h
  split at h
  · split at h
    · cases h; exact .inr ⟨‹_›, ‹_›, rfl⟩
    · cases h
  · cases h; exact .inl rfl

end Sys2Proof.Machine
end

