-- ==== Sys2Proof/Laws/Ops.lean ====
section
/-! SUPPORT. What the front end's state check and each operation can answer, said once. -/

namespace Sys2Proof.Machine

theorem onlyReady_ready {s : State} (h : s.cfg = .ready) (k : Result) : onlyReady s k = k := if_pos h

theorem onlyReady_refuses {s : State} (h : s.cfg ≠ .ready) (k : Result) : onlyReady s k = .next (raise .badState s) :=
  if_neg h

theorem onlyUnconfigured_unconfigured {s : State} (h : s.cfg = .unconfigured) (k : Result) :
    onlyUnconfigured s k = k := if_pos h

theorem onlyUnconfigured_refuses {s : State} (h : s.cfg ≠ .unconfigured) (k : Result) :
    onlyUnconfigured s k = .next (raise .badState s) := if_neg h

/-! What each operation answers, as one equation over the shared operations. -/

theorem exec_refused {s : State} {i : Instr} (h1 : i.opcode = .init → s.cfg ≠ .unconfigured)
    (h2 : i.opcode ≠ .init → s.cfg ≠ .ready) : exec i s = .next (raise .badState s) := by
  cases i with
  | init => exact onlyUnconfigured_refuses (h1 rfl) _
  | _ => exact onlyReady_refuses (h2 nofun) _

theorem exec_init_succeeds {s : State} {pin : Byte} {n : Word32} (hc : s.cfg = .unconfigured)
    (hl : lengthAdmitted n s = true) (ho : initOk s = true) :
    exec (.init pin n) s = .next (respond .ok 0 (configure pin n (takeInitOk s))) :=
  (onlyUnconfigured_unconfigured hc _).trans
    (congrArg Host.Outcome.next (if_pos (Bool.and_eq_true_iff.2 ⟨hl, ho⟩)))

theorem exec_init_fails {s : State} {pin : Byte} {n : Word32} (hc : s.cfg = .unconfigured)
    (h : ¬(lengthAdmitted n s = true ∧ initOk s = true)) :
    exec (.init pin n) s = .next (raise .initFault (failInit (takeInitOk s))) :=
  (onlyUnconfigured_unconfigured hc _).trans
    (congrArg Host.Outcome.next (if_neg fun x => h (Bool.and_eq_true_iff.1 x)))

theorem exec_setPixel_stores {s t : State} {x : Int} {r g b : Byte} (hc : s.cfg = .ready)
    (ht : storePixel x ⟨r, g, b⟩ s = .ok t) : exec (.setPixel x r g b) s = .next (respond .ok 0 t) := by
  rw [exec, execSetPixel, onlyReady_ready hc, ht]

theorem exec_getPixel_loads {s : State} {x : Int} {p : Pixel} (hc : s.cfg = .ready) (hp : loadPixel x s = .ok p) :
    exec (.getPixel x) s = .next (respond .ok p.datum s) := by
  rw [exec, execGetPixel, onlyReady_ready hc, hp]

theorem exec_setAll_ready {s : State} {r g b : Byte} (hc : s.cfg = .ready) :
    exec (.setAll r g b) s = .next (respond .ok 0 (fillPixels ⟨r, g, b⟩ s)) := onlyReady_ready hc _

theorem exec_getLength_ready {s : State} (hc : s.cfg = .ready) :
    exec .getLength s = .next (respond .ok s.len s) := onlyReady_ready hc _

theorem exec_present_ready {s : State} (hc : s.cfg = .ready) :
    exec .present s = .next (beginFrame s) := onlyReady_ready hc _

theorem exec_clear_ready {s : State} (hc : s.cfg = .ready) :
    exec .clear s = .next (beginFrame (fillPixels Pixel.black s)) := onlyReady_ready hc _

/-- Everything an operation can do when it answers a next state. -/
theorem exec_cases {i : Instr} {s t : State} (h : exec i s = .next t) :
    ((i.opcode = .init → s.cfg ≠ .unconfigured) ∧ (i.opcode ≠ .init → s.cfg ≠ .ready) ∧ t = raise .badState s) ∨
    (∃ pin n, i = .init pin n ∧ s.cfg = .unconfigured ∧ lengthAdmitted n s = true ∧ initOk s = true ∧
      t = respond .ok 0 (configure pin n (takeInitOk s))) ∨
    (∃ pin n, i = .init pin n ∧ s.cfg = .unconfigured ∧ ¬(lengthAdmitted n s = true ∧ initOk s = true) ∧
      t = raise .initFault (failInit (takeInitOk s))) ∨
    (∃ x r g b u, i = .setPixel x r g b ∧ s.cfg = .ready ∧ storePixel x ⟨r, g, b⟩ s = .ok u ∧ t = respond .ok 0 u) ∨
    (∃ r g b, i = .setAll r g b ∧ s.cfg = .ready ∧ t = respond .ok 0 (fillPixels ⟨r, g, b⟩ s)) ∨
    (i = .clear ∧ s.cfg = .ready ∧ t = beginFrame (fillPixels Pixel.black s)) ∨
    (i = .present ∧ s.cfg = .ready ∧ t = beginFrame s) ∨
    (∃ x p, i = .getPixel x ∧ s.cfg = .ready ∧ loadPixel x s = .ok p ∧ t = respond .ok p.datum s) ∨
    (i = .getLength ∧ s.cfg = .ready ∧ t = respond .ok s.len s) := by
  cases i with
  | init pin n =>
    simp only [exec, execInit] at h
    by_cases hc : s.cfg = .unconfigured
    · rw [onlyUnconfigured_unconfigured hc] at h
      injection h with h
      split at h
      · rename_i hb
        rw [Bool.and_eq_true] at hb
        exact .inr (.inl ⟨pin, n, rfl, hc, hb.1, hb.2, h.symm⟩)
      · rename_i hb
        rw [Bool.and_eq_true] at hb
        exact .inr (.inr (.inl ⟨pin, n, rfl, hc, hb, h.symm⟩))
    · rw [onlyUnconfigured_refuses hc] at h; injection h with h
      exact .inl ⟨fun _ => hc, fun hn => absurd rfl hn, h.symm⟩
  | setPixel x r g b =>
    simp only [exec, execSetPixel] at h
    by_cases hc : s.cfg = .ready
    · rw [onlyReady_ready hc] at h
      split at h
      · rename_i u hu
        injection h with h
        exact .inr (.inr (.inr (.inl ⟨x, r, g, b, u, rfl, hc, hu, h.symm⟩)))
      · cases h
    · rw [onlyReady_refuses hc] at h; injection h with h
      exact .inl ⟨nofun, fun _ => hc, h.symm⟩
  | setAll r g b =>
    simp only [exec, execSetAll] at h
    by_cases hc : s.cfg = .ready
    · rw [onlyReady_ready hc] at h; injection h with h
      exact .inr (.inr (.inr (.inr (.inl ⟨r, g, b, rfl, hc, h.symm⟩))))
    · rw [onlyReady_refuses hc] at h; injection h with h
      exact .inl ⟨nofun, fun _ => hc, h.symm⟩
  | clear =>
    simp only [exec, execClear] at h
    by_cases hc : s.cfg = .ready
    · rw [onlyReady_ready hc] at h; injection h with h
      exact .inr (.inr (.inr (.inr (.inr (.inl ⟨rfl, hc, h.symm⟩)))))
    · rw [onlyReady_refuses hc] at h; injection h with h
      exact .inl ⟨nofun, fun _ => hc, h.symm⟩
  | present =>
    simp only [exec, execPresent] at h
    by_cases hc : s.cfg = .ready
    · rw [onlyReady_ready hc] at h; injection h with h
      exact .inr (.inr (.inr (.inr (.inr (.inr (.inl ⟨rfl, hc, h.symm⟩))))))
    · rw [onlyReady_refuses hc] at h; injection h with h
      exact .inl ⟨nofun, fun _ => hc, h.symm⟩
  | getPixel x =>
    simp only [exec, execGetPixel] at h
    by_cases hc : s.cfg = .ready
    · rw [onlyReady_ready hc] at h
      split at h
      · rename_i p hp
        injection h with h
        exact .inr (.inr (.inr (.inr (.inr (.inr (.inr (.inl ⟨x, p, rfl, hc, hp, h.symm⟩)))))))
      · cases h
    · rw [onlyReady_refuses hc] at h; injection h with h
      exact .inl ⟨nofun, fun _ => hc, h.symm⟩
  | getLength =>
    simp only [exec, execGetLength] at h
    by_cases hc : s.cfg = .ready
    · rw [onlyReady_ready hc] at h; injection h with h
      exact .inr (.inr (.inr (.inr (.inr (.inr (.inr (.inr ⟨rfl, hc, h.symm⟩)))))))
    · rw [onlyReady_refuses hc] at h; injection h with h
      exact .inl ⟨nofun, fun _ => hc, h.symm⟩

end Sys2Proof.Machine
end

