-- ==== Sys2Proof/Laws/PerInstr.lean ====
section
/-! SUPPORT. What holds of every instruction as syntax, constructor by constructor. -/

namespace Sys2Proof.Laws.OpcodeField

/-- The OPC field of an instruction's word is its row's code (30_encoding.md R72). -/
def Statement (i : Instr) : Prop := opcField (encode i) = i.opcode.code

theorem init (pin : Byte) (length : Word32) : Statement (.init pin length) := opcField_commandWord _ _ _ _ _
theorem setPixel (index : Int) (r g b : Byte) : Statement (.setPixel index r g b) := opcField_commandWord _ _ _ _ _
theorem setAll (r g b : Byte) : Statement (.setAll r g b) := opcField_commandWord _ _ _ _ _
theorem clear : Statement .clear := opcField_commandWord _ _ _ _ _
theorem present : Statement .present := opcField_commandWord _ _ _ _ _
theorem getPixel (index : Int) : Statement (.getPixel index) := opcField_commandWord _ _ _ _ _
theorem getLength : Statement .getLength := opcField_commandWord _ _ _ _ _

end Sys2Proof.Laws.OpcodeField
end

