-- ==== Sys2Proof/Laws/Step.lean ====
section
/-! SUPPORT. What a step can do, said once; what withFetchWord sets up. -/

namespace Sys2Proof.Machine

/-- The sample of `rst` is taken off whether or not there was one to take. -/
theorem takeRst_of_nil {s : State} (h : s.rstIn = []) : takeRst s = s := by
  cases s; simp_all [takeRst]

theorem step_of_reset {s : State} (h : rstAsserted s = true) : step s = .next (applyReset s) := if_pos h

theorem step_of_busy {s : State} (h : rstAsserted s = false) (hb : s.busy = true) : step s = encStep (takeRst s) := by
  rw [step, if_neg (by simp [h]), advance, if_neg (by simp [cmdReady, hb])]

theorem step_of_idle {s : State} (h : rstAsserted s = false) (hb : s.busy = false) : step s = accept (takeRst s) := by
  rw [step, if_neg (by simp [h]), advance, if_pos (by simp [cmdReady, hb])]

/-- Everything a step can do when it answers a next state: reset, a move of the encoder, nothing, an operation
accepted, or an illegal word. -/
theorem step_cases {s t : State} (h : step s = .next t) :
    (rstAsserted s = true ∧ t = applyReset s) ∨
    (rstAsserted s = false ∧ s.busy = true ∧ ∃ m, encMove (takeRst s) = .ok m ∧ t = applyMove m (takeRst s)) ∨
    (rstAsserted s = false ∧ s.busy = false ∧ s.cmdIn = [] ∧ t = takeRst s) ∨
    (rstAsserted s = false ∧ s.busy = false ∧ ∃ w ws i, s.cmdIn = w :: ws ∧ decode w = .op i ∧
      exec i (takeCommand (takeRst s)) = .next t) ∨
    (rstAsserted s = false ∧ s.busy = false ∧ ∃ w ws why, s.cmdIn = w :: ws ∧ decode w = .illegal why ∧
      t = illegalCommand (takeCommand (takeRst s))) := by
  by_cases hr : rstAsserted s = true
  · rw [step_of_reset hr] at h; injection h with h; exact .inl ⟨hr, h.symm⟩
  · have hr' : rstAsserted s = false := by simpa using hr
    by_cases hb : s.busy = true
    · rw [step_of_busy hr' hb] at h
      exact .inr (.inl ⟨hr', hb, encStep_next h⟩)
    · have hb' : s.busy = false := by simpa using hb
      rw [step_of_idle hr' hb', accept, nextCommand, takeRst_cmdIn] at h
      rcases hq : s.cmdIn with _ | ⟨w, ws⟩
      · rw [hq] at h; injection h with h
        exact .inr (.inr (.inl ⟨hr', hb', rfl, h.symm⟩))
      · rw [hq] at h
        simp only [List.head?_cons, frontEnd] at h
        split at h
        · rename_i i hi
          exact .inr (.inr (.inr (.inl ⟨hr', hb', w, ws, i, rfl, hi, h⟩)))
        · rename_i why hi
          injection h with h
          exact .inr (.inr (.inr (.inr ⟨hr', hb', w, ws, why, rfl, hi, h.symm⟩)))

/-- The step after withFetchWord is the front end on that word, at the state that was given but for BUSY and PHASE. -/
theorem step_withFetchWord (s : State) (nbits w : Nat) :
    step (s.withFetchWord nbits w) =
      frontEnd (BitVec.ofNat 64 (w % 2 ^ nbits)) { s with busy := false, phase := .data } := rfl

end Sys2Proof.Machine
end

