-- ==== Sys2Proof/Laws/Run.lean ====
section
/-! SUPPORT. Runs of several steps, and how the reset samples they take are counted off. -/

namespace Sys2Proof.Machine

/-- A run here is the host's run of the machine. -/
theorem runFor_eq_core_run (n : Nat) (s : State) : runFor n s = Host.Core.run Sys2Proof.core n s := by
  induction n generalizing s with
  | zero => rfl
  | succ n ih =>
    simp only [runFor, Host.Core.run]
    have : (Sys2Proof.core).step s = step s := rfl
    cases h : step s with
    | next t => simp only [this, h]; exact ih t
    | fault f => simp only [this, h]; rfl
    | refused r => simp only [this, h]; rfl

theorem runFor_zero (s : State) : runFor 0 s = .next s := rfl

theorem runFor_succ {s t : State} (n : Nat) (h : step s = .next t) : runFor (n + 1) s = runFor n t := by
  rw [runFor, h]

/-- A run continues from where a shorter one ended. -/
theorem runFor_add {s t : State} (a b : Nat) (h : runFor a s = .next t) : runFor (a + b) s = runFor b t := by
  induction a generalizing s with
  | zero => rw [runFor_zero] at h; injection h with h; rw [h, Nat.zero_add]
  | succ a ih =>
    rw [Nat.add_right_comm]
    cases hs : step s with
    | next u => rw [runFor_succ _ hs] at h ⊢; exact ih h
    | fault f => rw [runFor, hs] at h; cases h
    | refused r => rw [runFor, hs] at h; cases h

theorem rstAsserted_of_quietFor {n : Nat} {s : State} (h : quietFor (n + 1) s) : rstAsserted s = false := by
  unfold rstAsserted
  cases hr : s.rstIn with
  | nil => rfl
  | cons b bs => exact h b (by simp [hr])

theorem quietFor_of_le {a b : Nat} {s : State} (h : quietFor b s) (hab : a ≤ b) : quietFor a s :=
  fun x hx => h x (List.take_subset_take_left _ hab hx)

/-- After `a` samples have been taken, `b` are left. -/
theorem quietFor_of_drop {a b : Nat} {s t : State} (h : quietFor (a + b) s) (ht : t.rstIn = s.rstIn.drop a) :
    quietFor b t := by
  intro x hx
  rw [ht] at hx
  exact h x (by rw [List.take_add]; exact List.mem_append_right _ hx)

theorem quietFor_of_tail {n : Nat} {s t : State} (h : quietFor (n + 1) s) (ht : t.rstIn = s.rstIn.tail) :
    quietFor n t :=
  quietFor_of_drop (a := 1) (by rwa [Nat.add_comm] at h) (by rw [ht, List.drop_one])

/-- `n` DATA steps with no fault among them append the symbols of the next `n` frame bits, and nothing else changes
but the cursor (43_transmission_encoder.md R132). -/
theorem runFor_data (n : Nat) {s : State} (hq : quietFor n s) (hb : s.busy = true) (hp : s.phase = .data)
    (hc : s.cur + n ≤ 24 * s.len.toNat) (hf : s.frame.length = 3 * s.len.toNat) (hd : s.dout = .low)
    (hx : ∀ k, s.cur ≤ k → k < s.cur + n → s.txFault ≠ some k) :
    runFor n s = .next
      { s with
        rstIn := s.rstIn.drop n
        cur := s.cur + n
        trace := s.trace ++ (((bitsOf s.frame).drop s.cur).take n).flatMap (sym s.hw) } := by
  induction n generalizing s with
  | zero => simp [runFor]
  | succ n ih =>
    obtain ⟨b, hbit⟩ := frameBit_isSome (f := s.frame) (n := s.cur) (by omega)
    have hm : encMove (takeRst s) = .ok (.bit b) :=
      encMove_bit hp (hx s.cur (by omega) (by omega)) (by simp only [frameBits, takeRst_len, takeRst_cur]; omega) hbit
    have hs : step s = .next (applyMove (.bit b) (takeRst s)) := by
      rw [step_of_busy (rstAsserted_of_quietFor hq) hb, encStep, hm]
    rw [runFor_succ n hs, applyMove_bit]
    rw [ih]
    · rw [frameBit_eq] at hbit
      obtain ⟨hlt, hge⟩ := List.getElem?_eq_some_iff.1 hbit
      have hcons : ((bitsOf s.frame).drop s.cur).take (n + 1) = b :: ((bitsOf s.frame).drop (s.cur + 1)).take n := by
        rw [List.drop_eq_getElem_cons hlt, List.take_succ_cons, hge]
      simp [takeRst, hcons, hd, Nat.add_assoc, Nat.add_comm 1 n]
    · exact quietFor_of_tail hq rfl
    · exact hb
    · exact hp
    · simp only [takeRst_cur, takeRst_len]; omega
    · exact hf
    · rfl
    · intro k h1 h2
      simp only [takeRst_cur] at h1 h2
      exact hx k (by omega) (by omega)

end Sys2Proof.Machine
end

