-- ==== Sys2Proof/Tests/Slice0.lean ====
section
/-! SUPPORT. Small tests, their expected results taken from spec/95_test_vectors.md (the vector's number is named), and
for every statement with hypotheses a named state and operands that meet them together. -/

namespace Sys2Proof.Tests

open Sys2Proof.Machine

/-! ## Helpers -/

/-- The block in READY with this buffer, between frames, nothing waiting. -/
def strip (pb : List Pixel) : State where
  hw := Config.test
  cfg := .ready
  len := BitVec.ofNat 32 pb.length
  pin := 18
  pb := pb
  phase := .data
  busy := false
  frame := []
  cur := 0
  txerr := false
  rsp := ⟨0, 0⟩
  dout := .low
  trace := []
  nframes := 0
  shown := List.replicate pb.length none
  rspLog := [⟨0, 0⟩]
  cmdIn := []
  rstIn := []
  initOkIn := []
  txFaultIn := []
  txFault := none
  drawn := 1

/-- Three pixels: red, green, blue (95_test_vectors.md T41). -/
def strip3 : State := strip [⟨255, 0, 0⟩, ⟨0, 255, 0⟩, ⟨0, 0, 255⟩]

/-- One pixel (T42, T46). -/
def strip1 : State := strip [⟨165, 60, 129⟩]

/-- A strip of length zero (T33, T50). -/
def strip0 : State := strip []

/-- UNCONFIGURED, with the answer to `init_ok` listed. -/
def fresh (ok : Bool) : State := { strip0 with cfg := .unconfigured, initOkIn := [ok] }

/-- The block in FAILED. -/
def failed : State := { strip0 with cfg := .failed }

/-- A word waits at the port. -/
def offering (w : Command) (s : State) : State := { s with cmdIn := [w] }

/-- The answer to the next frame's `tx_fault` is listed. -/
def drawing (x : Option Nat) (s : State) : State := { s with txFaultIn := [x] }

/-- A frame of the buffer is in flight, the cursor at `c`, its draw `x`. -/
def flying (s : State) (c : Nat) (x : Option Nat) : State := { beginFrame (drawing x s) with cur := c }

/-- The answer is a next state with this property. -/
def ends (r : Result) (p : State → Bool) : Bool :=
  match r with
  | .next t => p t
  | .fault _ => false
  | .refused _ => false

/-! ## Well-formedness: an ill-formed operand for each check -/

theorem test_setPixel_index_too_large_refused : (Instr.setPixel (2 ^ 31) 0 0 0).wellFormed = false := by decide
theorem test_setPixel_index_too_small_refused : (Instr.setPixel (-(2 ^ 31) - 1) 0 0 0).wellFormed = false := by decide
theorem test_getPixel_index_too_large_refused : (Instr.getPixel (2 ^ 31)).wellFormed = false := by decide
theorem test_getPixel_index_too_small_refused : (Instr.getPixel (-(2 ^ 31) - 1)).wellFormed = false := by decide

/-! ## Decoding: words written out from 30_encoding.md R71 and R72 -/

/-- T1: `OPC = 0x01`, `A = 3`, `C0 = 18`. -/
theorem test_decode_init : decode 0x0100000003000012 = .op (.init 18 3) := by decide
/-- T2. -/
theorem test_decode_init_reserved : decode 0x0100000003010012 = .illegal .reservedFieldNotZero := by decide
/-- T3: `OPC = 0x02`, `A = 1`, `C2 C1 C0 = 00 FF 00`. -/
theorem test_decode_setPixel : decode 0x020000000100FF00 = .op (.setPixel 1 0 255 0) := by decide
/-- T25: the smallest index. -/
theorem test_decode_setPixel_smallest : decode 0x0280000000010101 = .op (.setPixel (-2147483648) 1 1 1) := by decide
/-- T5: `OPC = 0x03`, `C2 C1 C0 = 0A 14 1E`. -/
theorem test_decode_setAll : decode 0x03000000000A141E = .op (.setAll 10 20 30) := by decide
/-- T13. -/
theorem test_decode_clear : decode 0x0400000000000000 = .op .clear := by decide
/-- T7. -/
theorem test_decode_present : decode 0x0500000000000000 = .op .present := by decide
/-- T28: `OPC = 0x06`, `A = 0xFFFFFFFF`. -/
theorem test_decode_getPixel : decode 0x06FFFFFFFF000000 = .op (.getPixel (-1)) := by decide
/-- T11. -/
theorem test_decode_getLength : decode 0x0700000000000000 = .op .getLength := by decide
/-- T15. -/
theorem test_decode_unassigned : decode 0x0800000000000000 = .illegal .unassignedOpcode := by decide
/-- T5 as a row of spec/opcode_table.json. -/
theorem test_decodeTableWord : decodeTableWord 64 0x03000000000A141E = some (.setAll 10 20 30) := by decide
/-- The host's way in: the word runs as the first instruction after reset (T54). -/
theorem test_withFetchWord_runs :
    ends (step (State.reset.withFetchWord 64 0x0500000000000000)) (fun t => decide (t.rsp = ⟨0x03, 0⟩)) = true := by decide

/-! ## The assembler -/

/-- T34. -/
theorem test_assemble_wraps_channels : assemble .setAll [256, -1, 511] = some 0x030000000000FFFF := by decide
/-- T36. -/
theorem test_assemble_rejects_pin : assemble .init [256, 3] = none := by decide
/-- T36. -/
theorem test_assemble_rejects_index : assemble .setPixel [4294967296, 0, 0, 0] = none := by decide
/-- R79, R80: a comment, a hexadecimal literal and a pseudo-operation; the word of T5. -/
theorem test_assemble_line :
    assembleLine ['f', 'i', 'l', 'l', ' ', '0', 'x', 'A', ',', ' ', '2', '0', ',', '3', '0', ' ', '#', 'c'] =
      .word 0x03000000000A141E := by decide

/-- R80: `configure` is `init`, its ranges included. -/
theorem test_assemble_configure :
    assemble .configure [18, 3] = some 0x0100000003000012 ∧ assemble .configure [256, 3] = none := by decide

/-! ## One operation -/

/-- T17. -/
theorem test_init_succeeds :
    ends (exec (.init 18 3) (fresh true)) (fun t =>
      decide (t.rsp = ⟨0, 0⟩ ∧ t.cfg = .ready ∧ t.len = 3 ∧ t.pb = [⟨0, 0, 0⟩, ⟨0, 0, 0⟩, ⟨0, 0, 0⟩] ∧ t.trace = [])) =
      true := by decide
/-- T19: 1025 is above MAX_LEN. -/
theorem test_init_too_long :
    ends (exec (.init 5 1025) (fresh true)) (fun t => decide (t.rsp = ⟨1, 0⟩ ∧ t.cfg = .failed ∧ t.len = 0)) = true := by
  decide
/-- T21: the last index. -/
theorem test_setPixel_last :
    ends (exec (.setPixel 2 0 0 9) strip3) (fun t =>
      decide (t.rsp = ⟨0, 0⟩ ∧ t.pb = [⟨255, 0, 0⟩, ⟨0, 255, 0⟩, ⟨0, 0, 9⟩])) = true := by decide
/-- T23: a negative index. -/
theorem test_setPixel_negative :
    ends (exec (.setPixel (-1) 1 2 3) strip3) (fun t => decide (t.rsp = ⟨0, 0⟩ ∧ t.pb = strip3.pb)) = true := by decide
/-- T30. -/
theorem test_setAll_fills :
    ends (exec (.setAll 10 20 30) strip3) (fun t =>
      decide (t.rsp = ⟨0, 0⟩ ∧ t.pb = [⟨10, 20, 30⟩, ⟨10, 20, 30⟩, ⟨10, 20, 30⟩] ∧ t.trace = [])) = true := by decide
/-- T37. -/
theorem test_setAll_unconfigured :
    ends (exec (.setAll 1 1 1) (fresh true)) (fun t => decide (t.rsp = ⟨3, 0⟩ ∧ t.pb = [])) = true := by decide
/-- T29's read: 0x00A53C81. -/
theorem test_getPixel_packs :
    ends (exec (.getPixel 0) strip1) (fun t => decide (t.rsp.word = 0x0000A53C81)) = true := by decide
/-- T27: index LEN reads the zero pixel. -/
theorem test_getPixel_at_length :
    ends (exec (.getPixel 3) strip3) (fun t => decide (t.rsp = ⟨0, 0⟩)) = true := by decide
/-- T19d. -/
theorem test_getLength : ends (exec .getLength strip3) (fun t => decide (t.rsp = ⟨0, 3⟩)) = true := by decide
/-- T41: green, red, blue of each pixel, pixel 0 first. -/
theorem test_present_snapshot :
    ends (exec .present (drawing none strip3)) (fun t =>
      decide (t.frame = [0, 255, 0, 255, 0, 0, 0, 0, 255] ∧ t.busy = true ∧ t.rspLog = strip3.rspLog)) = true := by decide
/-- E12: the buffer is black before the snapshot. -/
theorem test_clear_black :
    ends (exec .clear (drawing none strip1)) (fun t =>
      decide (t.pb = [⟨0, 0, 0⟩] ∧ t.frame = [0, 0, 0] ∧ t.busy = true)) = true := by decide
/-- T53: an illegal word is ILLEGAL_CMD even in the wrong state. -/
theorem test_illegal_beats_bad_state :
    ends (step (offering 0x0500000000000001 (fresh true))) (fun t => decide (t.rsp = ⟨4, 0⟩)) = true := by decide

/-! ## The wire and the encoder -/

/-- T39. -/
theorem test_byteSyms_A5 :
    byteSyms Config.test 0xA5 =
      [⟨.high, 900⟩, ⟨.low, 300⟩, ⟨.high, 300⟩, ⟨.low, 900⟩, ⟨.high, 900⟩, ⟨.low, 300⟩, ⟨.high, 300⟩, ⟨.low, 900⟩,
       ⟨.high, 300⟩, ⟨.low, 900⟩, ⟨.high, 900⟩, ⟨.low, 300⟩, ⟨.high, 300⟩, ⟨.low, 900⟩, ⟨.high, 900⟩, ⟨.low, 300⟩] := by
  decide
/-- T42a: the order of the bytes under `(B, R, G)`. -/
theorem test_frame_brg : frameBytes .brg [⟨0xA5, 0x3C, 0x81⟩] = [0x81, 0xA5, 0x3C] := by decide
/-- T42c: 49 segments, 328800 ns. -/
theorem test_train_duration :
    (train Config.test [0x3C, 0xA5, 0x81]).length = 49 ∧ duration (train Config.test [0x3C, 0xA5, 0x81]) = 328800 := by
  decide
/-- T42c: the last low parts merge. -/
theorem test_wave_merges : (wave (train Config.test [0x3C, 0xA5, 0x81])).getLast? = some ⟨.low, 300300⟩ := by decide
/-- R31: runs of one level become one segment, with their sums. -/
theorem test_wave_runs :
    wave [⟨.high, 1⟩, ⟨.high, 2⟩, ⟨.low, 3⟩, ⟨.low, 4⟩, ⟨.high, 5⟩] = [⟨.high, 3⟩, ⟨.low, 7⟩, ⟨.high, 5⟩] := by decide
/-- R87: a lone low shorter than the latch ends no frame (log 18). -/
theorem test_receive_short_low : receive Config.test [⟨.high, 300⟩, ⟨.low, 900⟩, ⟨.low, 10⟩] = none := by decide
/-- T46: frame bit 2 of `3C A5 81` is a 1. -/
theorem test_data_step :
    ends (step (flying strip1 2 (some 10))) (fun t =>
      decide (t.trace = [⟨.high, 900⟩, ⟨.low, 300⟩] ∧ t.cur = 3 ∧ t.phase = .data)) = true := by decide
/-- T46: the fault step at `CUR = 10`. -/
theorem test_fault_step :
    ends (step (flying strip1 10 (some 10))) (fun t =>
      decide (t.trace = [] ∧ t.txerr = true ∧ t.phase = .latch ∧ t.cur = 10)) = true := by decide
/-- T48: a late acknowledgment, `at(24)`, is still a fault. -/
theorem test_late_acknowledgment :
    ends (step (flying strip1 24 (some 24))) (fun t => decide (t.txerr = true ∧ t.phase = .latch)) = true := by decide
/-- T44's last step: the latch, the response, and the strip shows the buffer. -/
theorem test_latch_step :
    ends (step { flying strip1 24 none with phase := .latch }) (fun t =>
      decide (t.trace = [⟨.low, 300000⟩] ∧ t.rsp = ⟨0, 0⟩ ∧ t.busy = false ∧ t.nframes = 1 ∧
        t.shown = [some ⟨165, 60, 129⟩])) = true := by decide
/-- R170: reset drops a frame in flight. -/
theorem test_reset_in_flight :
    ends (step { flying strip1 5 none with rstIn := [true] }) (fun t =>
      decide (t.cfg = .unconfigured ∧ t.busy = false ∧ t.cur = 0 ∧ t.trace = [] ∧ t.pb = [])) = true := by decide

/-! ## Witnesses: the hypotheses of each statement are met together -/

theorem witness_DecodeOfEncode :
    (Instr.setPixel (-(2 ^ 31)) 0 255 0).wellFormed = true ∧ (Instr.setPixel (2 ^ 31 - 1) 0 255 0).wellFormed = true ∧
    (Instr.getPixel (-(2 ^ 31))).wellFormed = true ∧ (Instr.getPixel (2 ^ 31 - 1)).wellFormed = true ∧
    (Instr.init 255 0xFFFFFFFF).wellFormed = true ∧ (Instr.setAll 255 0 255).wellFormed = true ∧
    Instr.clear.wellFormed = true ∧ Instr.present.wellFormed = true ∧ Instr.getLength.wellFormed = true := by decide

theorem witness_EncodeOfDecode :
    decode 0x027FFFFFFF010101 = .op (.setPixel 2147483647 1 1 1) ∧ decode 0x0700000000000000 = .op .getLength := by decide

theorem witness_IllegalWordsAnswered :
    (offers (offering 0 strip3) 0 [] ∧ decode 0 = .illegal .unassignedOpcode) ∧
    (offers (offering 0x0800000000000000 failed) 0x0800000000000000 [] ∧
      decode 0x0800000000000000 = .illegal .unassignedOpcode) ∧
    (offers (offering 0x0600000001000001 (fresh true)) 0x0600000001000001 [] ∧
      decode 0x0600000001000001 = .illegal .reservedFieldNotZero) := by decide

theorem witness_OperandsOfWord :
    decode 0x01FFFFFFFF0000FF = .op (.init 255 0xFFFFFFFF) ∧
    decode 0x027FFFFFFF010203 = .op (.setPixel (2 ^ 31 - 1) 1 2 3) ∧
    decode 0x0280000000010203 = .op (.setPixel (-(2 ^ 31)) 1 2 3) ∧
    decode 0x0300000000FF00FF = .op (.setAll 255 0 255) ∧
    decode 0x067FFFFFFF000000 = .op (.getPixel (2 ^ 31 - 1)) ∧
    decode 0x0680000000000000 = .op (.getPixel (-(2 ^ 31))) := by decide

theorem witness_AssemblerOperandRanges :
    (-(2 ^ 31) ≤ (-(2 ^ 31) : Int) ∧ (-(2 ^ 31) : Int) ≤ 2 ^ 31 - 1) ∧
    (-(2 ^ 31) ≤ (2 ^ 31 - 1 : Int) ∧ (2 ^ 31 - 1 : Int) ≤ 2 ^ 31 - 1) ∧
    ¬(-(2 ^ 31) ≤ (2 ^ 31 : Int) ∧ (2 ^ 31 : Int) ≤ 2 ^ 31 - 1) ∧
    ((0 : Int) ≤ 255 ∧ (255 : Int) ≤ 255 ∧ (0 : Int) ≤ 2 ^ 32 - 1 ∧ (2 ^ 32 - 1 : Int) ≤ 2 ^ 32 - 1) ∧
    ¬(((0 : Int) ≤ 256 ∧ (256 : Int) ≤ 255) ∧ (0 : Int) ≤ 3 ∧ (3 : Int) ≤ 2 ^ 32 - 1) ∧
    ¬(((0 : Int) ≤ 18 ∧ (18 : Int) ≤ 255) ∧ (0 : Int) ≤ 2 ^ 32 ∧ (2 ^ 32 : Int) ≤ 2 ^ 32 - 1) := by decide

/-- Two states that differ in their buffer, length and frame, alike in what waits at the ports. -/
theorem witness_NothingSurvivesReset :
    let s := { flying strip3 5 none with rstIn := [true] }
    let s' := { strip1 with rstIn := [true], drawn := s.drawn }
    rstAsserted s = true ∧ s'.hw = s.hw ∧ s'.drawn = s.drawn ∧ s'.cmdIn = s.cmdIn ∧ s'.rstIn = s.rstIn ∧
      s'.initOkIn = s.initOkIn ∧ s'.txFaultIn = s.txFaultIn ∧ s'.pb ≠ s.pb := by decide

theorem witness_ResetMeetsInvariant :
    Config.test.wf ∧ ({ Config.test with maxLen := 2 ^ 31 - 1, t0h := 1, t0l := 2, t1h := 2, t1l := 1, tLatch := 1 }).wf := by
  decide

theorem witness_StepRunsDecodedOperation :
    offers (offering 0x0500000000000000 strip3) 0x0500000000000000 [] ∧ decode 0x0500000000000000 = .op .present := by decide

theorem witness_PermittedPairs :
    (Instr.init 18 3).opcode = .init ∧ strip3.cfg ≠ .unconfigured ∧ failed.cfg ≠ .unconfigured ∧
    Instr.present.opcode ≠ .init ∧ failed.cfg ≠ .ready ∧ (fresh true).cfg ≠ .ready ∧
    ((fresh true).cfg = .unconfigured ∧ Memory.wf (fresh true) = true) ∧
    (strip3.cfg = .ready ∧ Memory.wf strip3 = true) := by decide

theorem witness_OneResponsePerOperation :
    (rstAsserted strip3 = false ∧ strip3.busy = false ∧ strip3.cmdIn = [] ∧ ∃ t, step strip3 = .next t) ∧
    ((offering 0x0700000000000000 strip3).cmdIn ≠ [] ∧ ∃ t, step (offering 0x0700000000000000 strip3) = .next t) ∧
    ((flying strip1 0 none).busy = true ∧ ∃ t, step (flying strip1 0 none) = .next t) ∧
    (∃ t, step { flying strip1 24 none with phase := .latch } = .next t ∧ t.busy = false) :=
  ⟨⟨by decide, by decide, by decide, _, rfl⟩, ⟨by decide, _, rfl⟩, ⟨by decide, _, rfl⟩, _, rfl, by decide⟩

theorem witness_ResponseForm :
    ∃ t, rstAsserted (offering 0x0600000000000000 strip1) = false ∧ step (offering 0x0600000000000000 strip1) = .next t ∧
      t.rspLog ≠ (offering 0x0600000000000000 strip1).rspLog ∧ t.rsp.data ≠ 0 :=
  ⟨_, by decide, rfl, by decide, by decide⟩

/-- The lengths 0 and MAX_LEN. -/
theorem witness_InitSucceeds :
    (fresh true).cfg = .unconfigured ∧ (0 : Word32).toNat ≤ (fresh true).hw.maxLen ∧
    (1024 : Word32).toNat ≤ (fresh true).hw.maxLen ∧ initOk (fresh true) = true := by decide

theorem witness_InitializationFault :
    ((fresh true).cfg = .unconfigured ∧ (fresh true).hw.maxLen < (1025 : Word32).toNat) ∧
    ((fresh false).cfg = .unconfigured ∧ initOk (fresh false) = false) ∧
    (∃ t, rstAsserted (offering 0x0100000003000012 (fresh false)) = false ∧
      step (offering 0x0100000003000012 (fresh false)) = .next t ∧
      t.rspLog ≠ (offering 0x0100000003000012 (fresh false)).rspLog ∧ t.rsp.status = 0x01) ∧
    failed.cfg = .failed :=
  ⟨by decide, by decide, ⟨_, by decide, rfl, by decide, by decide⟩, by decide⟩

theorem witness_GetLengthAnswersLen : strip3.cfg = .ready ∧ strip0.cfg = .ready := by decide

/-- The indices 0 and LEN - 1; also for GetPixelAnswersEntry and ReadGivesLatestWrite. -/
theorem witness_SetPixelWritesEntry :
    strip3.cfg = .ready ∧ Memory.wf strip3 = true ∧ (0 : Int) ≤ 0 ∧ (0 : Int) < strip3.len.toNat ∧
      (0 : Int) ≤ 2 ∧ (2 : Int) < strip3.len.toNat := by decide

/-- The indices -1 and LEN, and the extreme ones. -/
theorem witness_OutOfRangeIsNoFault :
    strip3.cfg = .ready ∧ (-1 : Int) < 0 ∧ (strip3.len.toNat : Int) ≤ 3 ∧ (-(2 ^ 31) : Int) < 0 ∧
      (strip3.len.toNat : Int) ≤ 2 ^ 31 - 1 := by decide

theorem witness_SetAllFillsBuffer :
    (strip3.cfg = .ready ∧ Memory.wf strip3 = true) ∧ (strip0.cfg = .ready ∧ Memory.wf strip0 = true) := by decide

theorem witness_GetPixelAnswersEntry :
    strip1.cfg = .ready ∧ Memory.wf strip1 = true ∧ (0 : Int) ≤ 0 ∧ (0 : Int) < strip1.len.toNat := by decide

theorem witness_ReadGivesLatestWrite :
    strip3.cfg = .ready ∧ Memory.wf strip3 = true ∧ (0 : Int) ≤ 2 ∧ (2 : Int) < strip3.len.toNat := by decide

theorem witness_BufferOperationsFrame :
    (∃ t, exec (.setPixel 1 7 8 9) strip3 = .next t) ∧ (∃ t, exec (.setAll 7 8 9) strip3 = .next t) ∧
    (∃ t, exec (.getPixel 1) strip3 = .next t) ∧ (∃ t, exec .getLength strip3 = .next t) :=
  ⟨⟨_, rfl⟩, ⟨_, rfl⟩, ⟨_, rfl⟩, ⟨_, rfl⟩⟩

theorem witness_RepeatedAccessIsIdempotent :
    ∃ t u, exec (.setPixel 1 7 8 9) strip3 = .next t ∧ exec (.setPixel 1 7 8 9) t = .next u := ⟨_, _, rfl, rfl⟩

theorem witness_PresentStartsFrame : strip3.cfg = .ready := by decide

theorem witness_ClearZeroesThenPresents : strip3.cfg = .ready ∧ Memory.wf strip3 = true := by decide

theorem witness_BuildFrameBytes : strip3.cfg = .ready ∧ Memory.wf strip3 = true ∧ 2 < strip3.len.toNat ∧
  strip3.pb[2]? = some ⟨0, 0, 255⟩ := by decide

theorem witness_FramesNeverOverlap :
    (∃ t, rstAsserted (offering 0x0500000000000000 (drawing none strip3)) = false ∧
      step (offering 0x0500000000000000 (drawing none strip3)) = .next t ∧ t.busy = true ∧ strip3.busy = false) ∧
    (∃ t, rstAsserted (flying strip1 3 none) = false ∧ step (flying strip1 3 none) = .next t ∧ t.busy = true ∧
      (flying strip1 3 none).busy = true) :=
  ⟨⟨_, by decide, rfl, by decide, by decide⟩, ⟨_, by decide, rfl, by decide, by decide⟩⟩

/-- The first bit and the last. -/
theorem witness_DataStepSendsBit :
    (rstAsserted (flying strip1 0 none) = false ∧ (flying strip1 0 none).busy = true ∧
      (flying strip1 0 none).phase = .data ∧ (flying strip1 0 none).cur < 24 * (flying strip1 0 none).len.toNat ∧
      (flying strip1 0 none).txFault ≠ some (flying strip1 0 none).cur ∧
      (flying strip1 0 none).frame[(flying strip1 0 none).cur / 8]? = some 0x3C) ∧
    ((flying strip1 23 (some 24)).cur < 24 * (flying strip1 23 (some 24)).len.toNat ∧
      (flying strip1 23 (some 24)).txFault ≠ some (flying strip1 23 (some 24)).cur ∧
      (flying strip1 23 (some 24)).frame[(flying strip1 23 (some 24)).cur / 8]? = some 0x81) := by decide

/-- Length 0 and length 1. -/
theorem witness_DataToLatch :
    (rstAsserted (flying strip0 0 none) = false ∧ (flying strip0 0 none).busy = true ∧
      (flying strip0 0 none).phase = .data ∧ (flying strip0 0 none).cur = 24 * (flying strip0 0 none).len.toNat ∧
      (flying strip0 0 none).txFault ≠ some (flying strip0 0 none).cur) ∧
    ((flying strip1 24 none).cur = 24 * (flying strip1 24 none).len.toNat ∧
      (flying strip1 24 none).txFault ≠ some (flying strip1 24 none).cur) := by decide

/-- With and without a transmission fault. -/
theorem witness_LatchStepEndsFrame :
    let s := { flying strip1 10 (some 10) with phase := .latch, txerr := true }
    rstAsserted s = false ∧ s.busy = true ∧ s.phase = .latch ∧ s.frame = frameBytes s.hw.wireOrder strip1.pb ∧
      { s with txerr := false }.frame = frameBytes s.hw.wireOrder strip1.pb := by decide

/-- The draws `at(0)` and `at(24 * LEN)`. -/
theorem witness_FaultStepCutsFrame :
    (quietFor 2 (flying strip1 0 (some 0)) ∧ (flying strip1 0 (some 0)).busy = true ∧
      (flying strip1 0 (some 0)).phase = .data ∧ (flying strip1 0 (some 0)).txerr = false ∧
      (flying strip1 0 (some 0)).cur ≤ 24 * (flying strip1 0 (some 0)).len.toNat ∧
      (flying strip1 0 (some 0)).txFault = some (flying strip1 0 (some 0)).cur) ∧
    ((flying strip1 24 (some 24)).cur ≤ 24 * (flying strip1 24 (some 24)).len.toNat ∧
      (flying strip1 24 (some 24)).txFault = some (flying strip1 24 (some 24)).cur) := by decide

/-- The last byte of the frame, the draw falling right after it. -/
theorem witness_EightStepsSendByte :
    let s := flying strip1 16 (some 24)
    quietFor 8 s ∧ s.busy = true ∧ s.phase = .data ∧ s.cur % 8 = 0 ∧ s.cur + 8 ≤ 24 * s.len.toNat ∧
      (∀ k, s.cur ≤ k → k < s.cur + 8 → s.txFault ≠ some k) ∧ s.frame[s.cur / 8]? = some 0x81 := by
  refine ⟨by decide, by decide, by decide, by decide, by decide, fun k _ h e => ?_, by decide⟩
  have h' : k < 24 := h
  injection e with e
  omega

theorem test_config_wf : Config.test.wf := by decide

theorem strip_inv (pb : List Pixel) (h : pb.length ≤ 1024) : (strip pb).Inv := by
  have hl : (BitVec.ofNat 32 pb.length).toNat = pb.length := by
    rw [BitVec.toNat_ofNat, Nat.mod_eq_of_lt (by omega)]
  refine ⟨test_config_wf, fun hc => absurd rfl hc, fun _ => ⟨hl.symm, ?_⟩, nofun, Nat.zero_le _, nofun, ?_, fun _ => rfl, nofun⟩
  · exact (Nat.le_of_eq hl).trans h
  · exact (List.length_replicate ..).trans hl.symm

/-- Length 1 and length 0. -/
theorem witness_PresentDeliversTrain :
    (let s := offering (encode .present) (drawing none strip1)
     s.Inv ∧ s.cfg = .ready ∧ 24 = 24 * s.len.toNat ∧ quietFor 27 s ∧ offers s (encode .present) [] ∧
       ∀ k, k ≤ 24 → nextTxFault s ≠ some k) ∧
    (let s := offering (encode .present) (drawing none strip0)
     s.Inv ∧ s.cfg = .ready ∧ 0 = 24 * s.len.toNat ∧ quietFor 3 s ∧ offers s (encode .present) [] ∧
       ∀ k, k ≤ 0 → nextTxFault s ≠ some k) := by
  have h1 := strip_inv [⟨165, 60, 129⟩] (by decide)
  have h0 := strip_inv [] (by decide)
  exact ⟨⟨⟨h1.1, h1.2, h1.3, h1.4, h1.5, h1.6, h1.7, h1.8, h1.9⟩, by decide, by decide, by decide, by decide,
      fun _ _ => nofun⟩,
    ⟨⟨h0.1, h0.2, h0.3, h0.4, h0.5, h0.6, h0.7, h0.8, h0.9⟩, by decide, by decide, by decide, by decide,
      fun _ _ => nofun⟩⟩

theorem witness_ClearDeliversBlackFrame :
    let s := offering (encode .clear) (drawing none strip1)
    s.Inv ∧ s.cfg = .ready ∧ 24 = 24 * s.len.toNat ∧ quietFor 27 s ∧ offers s (encode .clear) [] ∧
      ∀ k, k ≤ 24 → nextTxFault s ≠ some k := by
  have h1 := strip_inv [⟨165, 60, 129⟩] (by decide)
  exact ⟨⟨h1.1, h1.2, h1.3, h1.4, h1.5, h1.6, h1.7, h1.8, h1.9⟩, by decide, by decide, by decide, by decide,
    fun _ _ => nofun⟩

/-- The draws `at(0)` and `at(24 * LEN)`, for both operations. -/
theorem witness_FaultedFrameIsPrefixAndLatch :
    (let s := offering (encode .present) (drawing (some 0) strip1)
     s.Inv ∧ s.cfg = .ready ∧ 0 ≤ 24 * s.len.toNat ∧ quietFor 3 s ∧ nextTxFault s = some 0 ∧
       offers s (encode .present) []) ∧
    (let s := offering (encode .clear) (drawing (some 24) strip1)
     s.Inv ∧ s.cfg = .ready ∧ 24 ≤ 24 * s.len.toNat ∧ quietFor 27 s ∧ nextTxFault s = some 24 ∧
       offers s (encode .clear) []) := by
  have h1 := strip_inv [⟨165, 60, 129⟩] (by decide)
  exact ⟨⟨⟨h1.1, h1.2, h1.3, h1.4, h1.5, h1.6, h1.7, h1.8, h1.9⟩, by decide, by decide, by decide, by decide, by decide⟩,
    ⟨⟨h1.1, h1.2, h1.3, h1.4, h1.5, h1.6, h1.7, h1.8, h1.9⟩, by decide, by decide, by decide, by decide, by decide⟩⟩

theorem flying_inv : (flying strip1 24 none).Inv := by
  refine ⟨by decide, ?_, ?_, ?_, ?_, ?_, ?_, ?_, ?_⟩ <;> decide

theorem witness_EveryFrameEnds :
    (flying strip1 24 none).Inv ∧ (flying strip1 24 none).busy = true ∧
      quietFor (24 * (flying strip1 24 none).len.toNat + 2) (flying strip1 24 none) := ⟨flying_inv, by decide, by decide⟩

theorem witness_FrameIsIsolatedFromBuffer :
    ∃ t, rstAsserted (flying strip1 3 none) = false ∧ (flying strip1 3 none).busy = true ∧
      step (flying strip1 3 none) = .next t := ⟨_, by decide, by decide, rfl⟩

/-- A step that starts a frame, and one that does not. -/
theorem witness_EarlierFramesLeaveNoTrace :
    (∃ t, rstAsserted (offering 0x0500000000000000 (drawing none strip1)) = false ∧ strip1.busy = false ∧
      step (offering 0x0500000000000000 (drawing none strip1)) = .next t ∧ t.busy = true) ∧
    (∃ t, step (offering 0x0700000000000000 strip1) = .next t ∧ t.busy = false) :=
  ⟨⟨_, by decide, by decide, rfl, by decide⟩, ⟨_, rfl, by decide⟩⟩

theorem witness_TrainIsLossless :
    Config.test.wf ∧ train Config.test (frameBytes Config.test.wireOrder strip1.pb) =
      train Config.test (frameBytes Config.test.wireOrder strip1.pb) := ⟨by decide, rfl⟩

theorem witness_ReceiverReadsFrame :
    Config.test.wf ∧ Config.test.t0h + Config.test.tol < Config.test.t1h - Config.test.tol := by decide

theorem witness_StepKeepsInvariant : ∃ t, (flying strip1 24 none).Inv ∧ step (flying strip1 24 none) = .next t :=
  ⟨_, flying_inv, rfl⟩

theorem witness_NoStepStops : (flying strip1 24 none).Inv ∧ strip1.Inv := ⟨flying_inv, strip_inv _ (by decide)⟩

/-- Reset, and the step after it with INIT waiting. -/
theorem witness_ReachableStatesAreSafe :
    ∃ t, Reachable t ∧ t.cfg = .ready :=
  ⟨_, .step _ _ (.reset Config.test 0 [0x0100000003000012] [] [true] [] (by decide)) rfl, rfl⟩

theorem witness_ConfigTransitions :
    (∃ t, step { strip1 with rstIn := [true] } = .next t ∧ t.cfg ≠ strip1.cfg) ∧
    (∃ t, step (offering 0x0100000003000012 (fresh true)) = .next t ∧ t.cfg = .ready) ∧
    (∃ t, step (offering 0x0100000003000012 (fresh false)) = .next t ∧ t.cfg = .failed) :=
  ⟨⟨_, rfl, by decide⟩, ⟨_, rfl, by decide⟩, ⟨_, rfl, by decide⟩⟩

theorem fresh_inv (w : Command) : (offering w (fresh true)).Inv := by
  refine ⟨test_config_wf, fun _ => ⟨rfl, rfl, rfl⟩, ?_, ?_, ?_, ?_, rfl, ?_, ?_⟩
  · intro h; cases h
  · intro h; cases h
  · exact Nat.zero_le _
  · intro h; cases h
  · intro h; cases h
  · intro h; cases h

theorem witness_LengthIsFixed :
    ∃ t, (offering 0x0100000003000012 (fresh true)).Inv ∧ step (offering 0x0100000003000012 (fresh true)) = .next t ∧
      t.len ≠ (fresh true).len := ⟨_, fresh_inv _, rfl, by decide⟩

theorem witness_BufferWriters :
    (∃ t, step (offering 0x0200000000000000 strip1) = .next t ∧ t.pb ≠ strip1.pb) ∧
    (∃ t, step { strip1 with rstIn := [true] } = .next t ∧ t.pb ≠ strip1.pb) :=
  ⟨⟨_, rfl, by decide⟩, ⟨_, rfl, by decide⟩⟩

theorem witness_OnlyFramesReachTheLine :
    ∃ t, rstAsserted (offering 0x0300000000000000 strip1) = false ∧ strip1.busy = false ∧
      step (offering 0x0300000000000000 strip1) = .next t ∧ t.cfg = strip1.cfg := ⟨_, by decide, by decide, rfl, by decide⟩

/-- INIT that succeeds; a step that answers next; and a step that stops, in a state that breaks R37. -/
theorem witness_PinIsNeverRead :
    (∃ t, exec (.init 18 3) (fresh true) = .next t ∧ t.cfg = .ready ∧ (fresh true).cfg = .unconfigured) ∧
    (∃ t, step (offering 0x0700000000000000 strip1) = .next t) ∧
    step (offering 0x0600000000000000 { strip1 with pb := [] }) = .fault .pixelAbsent :=
  ⟨⟨_, rfl, by decide, by decide⟩, ⟨_, rfl⟩, rfl⟩

theorem witness_ObservationsAreNeverRead :
    ∃ t, rstAsserted (flying strip1 3 none) = false ∧ step (flying strip1 3 none) = .next t ∧ t.trace ≠ [] :=
  ⟨_, by decide, rfl, by decide⟩

/-- A step that sends a bit, the step that ends the frame, and a step that does neither. -/
theorem witness_TraceCountsBitsAndFrames :
    (∃ t, rstAsserted (flying strip1 3 none) = false ∧ step (flying strip1 3 none) = .next t ∧ t.busy = true ∧
      t.cur = (flying strip1 3 none).cur + 1 ∧
      ((flying strip1 3 none).trace.map Segment.level).count .low =
        ((flying strip1 3 none).trace.map Segment.level).count .high + (flying strip1 3 none).nframes) ∧
    (∃ t, step { flying strip1 24 none with phase := .latch } = .next t ∧ t.busy = false) ∧
    (∃ t, step (flying strip1 24 none) = .next t ∧ t.busy = true ∧ t.cur = 24) :=
  ⟨⟨_, by decide, rfl, by decide, by decide, by decide⟩, ⟨_, rfl, by decide⟩, ⟨_, rfl, by decide, by decide⟩⟩

theorem witness_ConstantsAreNeverWritten : ∃ t, step { strip1 with rstIn := [true] } = .next t := ⟨_, rfl⟩

end Sys2Proof.Tests
end

/-! SUPPORT. The shape of a step: the few kinds of state an operation and a step can lead to, said once over the
shared operations, so that what is kept, written or counted is read off kind by kind. -/

namespace Sys2Proof.Machine

/-- What an accepted operation leaves, by kind. The two INIT outcomes are R100 and R151; everything that answers at
once and is no permitted INIT writes at most PB and the response; PRESENT and CLEAR put a frame in flight. -/
inductive ExecShape (i : Instr) (s : State) : State → Prop where
  | configured (pin : Byte) (n : Word32) (hi : i = .init pin n) (hc : s.cfg = .unconfigured)
      (hn : lengthAdmitted n s = true) : ExecShape i s (respond .ok 0 (configure pin n (takeInitOk s)))
  | initFailed (pin : Byte) (n : Word32) (hi : i = .init pin n) (hc : s.cfg = .unconfigured) :
      ExecShape i s (raise .initFault (failInit (takeInitOk s)))
  | answered (pb : List Pixel) (st : Status) (d : Word32) (hl : pb.length = s.pb.length)
      (hw : pb = s.pb ∨ i.opcode = .setPixel ∨ i.opcode = .setAll) : ExecShape i s (respond st d { s with pb := pb })
  | frameStarted (pb : List Pixel) (hc : s.cfg = .ready) (hl : pb.length = s.pb.length)
      (hw : pb = s.pb ∨ i.opcode = .clear) : ExecShape i s (beginFrame { s with pb := pb })

/-- Every operation that answers a next state leaves one of the four kinds. -/
theorem exec_shape {i : Instr} {s t : State} (h : exec i s = .next t) : ExecShape i s t := by
  rcases exec_cases h with ⟨-, -, rfl⟩ | ⟨pin, n, hi, hc, hn, -, rfl⟩ | ⟨pin, n, hi, hc, -, rfl⟩ |
    ⟨x, r, g, b, u, rfl, -, hu, rfl⟩ | ⟨r, g, b, rfl, -, rfl⟩ | ⟨rfl, hc, rfl⟩ | ⟨rfl, hc, rfl⟩ |
    ⟨x, p, rfl, -, -, rfl⟩ | ⟨rfl, -, rfl⟩
  · exact .answered s.pb .badState 0 rfl (.inl rfl)
  · exact .configured pin n hi hc hn
  · exact .initFailed pin n hi hc
  · rcases storePixel_cases hu with rfl | ⟨-, -, rfl⟩
    · exact .answered _ .ok 0 rfl (.inl rfl)
    · exact .answered _ .ok 0 List.length_set (.inr (.inl rfl))
  · exact .answered _ .ok 0 (List.length_map _) (.inr (.inr rfl))
  · exact .frameStarted _ hc (List.length_map _) (.inr rfl)
  · exact .frameStarted s.pb hc rfl (.inl rfl)
  · exact .answered s.pb .ok p.datum rfl (.inl rfl)
  · exact .answered s.pb .ok s.len rfl (.inl rfl)

/-- The state an operation of the coming step runs in: the sample of `rst` and the word are taken. -/
abbrev atPort (s : State) : State := takeCommand (takeRst s)

/-- What a step leaves, by kind: reset, a move of the encoder, nothing, an operation, an illegal word. -/
inductive StepShape (s : State) : State → Prop where
  | reset (hr : rstAsserted s = true) : StepShape s (applyReset s)
  | encoder (m : EncMove) (hr : rstAsserted s = false) (hb : s.busy = true) (hm : encMove (takeRst s) = .ok m) :
      StepShape s (applyMove m (takeRst s))
  | idle (hr : rstAsserted s = false) (hb : s.busy = false) (hq : s.cmdIn = []) : StepShape s (takeRst s)
  | operation {t : State} (w : Command) (ws : List Command) (i : Instr) (hr : rstAsserted s = false)
      (hb : s.busy = false) (hq : s.cmdIn = w :: ws) (hd : decode w = .op i) (he : ExecShape i (atPort s) t) :
      StepShape s t
  | illegal (w : Command) (ws : List Command) (hr : rstAsserted s = false) (hb : s.busy = false)
      (hq : s.cmdIn = w :: ws) : StepShape s (illegalCommand (atPort s))

theorem step_shape {s t : State} (h : step s = .next t) : StepShape s t := by
  rcases step_cases h with ⟨hr, rfl⟩ | ⟨hr, hb, m, hm, rfl⟩ | ⟨hr, hb, hq, rfl⟩ | ⟨hr, hb, w, ws, i, hq, hd, he⟩ |
    ⟨hr, hb, w, ws, -, hq, -, rfl⟩
  · exact .reset hr
  · exact .encoder m hr hb hm
  · exact .idle hr hb hq
  · exact .operation w ws i hr hb hq hd (exec_shape he)
  · exact .illegal w ws hr hb hq

/-! ## The three steps from BUSY = 0, as equations -/

theorem step_of_nothing_waiting {s : State} (hr : rstAsserted s = false) (hb : s.busy = false) (hq : s.cmdIn = []) :
    step s = .next (takeRst s) := by
  rw [step_of_idle hr hb, accept, nextCommand, takeRst_cmdIn, hq]; rfl

theorem step_of_word {s : State} {w : Command} {ws : List Command} (hr : rstAsserted s = false) (hb : s.busy = false)
    (hq : s.cmdIn = w :: ws) : step s = frontEnd w (atPort s) := by
  rw [step_of_idle hr hb, accept, nextCommand, takeRst_cmdIn, hq]; rfl

theorem frontEnd_of_op {w : Command} {i : Instr} (hd : decode w = .op i) (s : State) : frontEnd w s = exec i s := by
  rw [frontEnd, hd]

theorem frontEnd_of_illegal {w : Command} {why : IllegalCommand} (hd : decode w = .illegal why) (s : State) :
    frontEnd w s = .next (illegalCommand s) := by
  rw [frontEnd, hd]

/-! ## What the encoder leaves unchanged -/

/-- A move of the encoder writes the line, the frame's progress and its end, and no more: every other field of the
block and its inputs stays (43_transmission_encoder.md R132 to R135). -/
theorem applyMove_frame (m : EncMove) (s : State) :
    applyMove m s =
      { s with
        trace := (applyMove m s).trace, dout := (applyMove m s).dout, cur := (applyMove m s).cur
        txerr := (applyMove m s).txerr, phase := (applyMove m s).phase, busy := (applyMove m s).busy
        nframes := (applyMove m s).nframes, shown := (applyMove m s).shown
        rsp := (applyMove m s).rsp, rspLog := (applyMove m s).rspLog } := by
  cases m with
  | bit b => rw [applyMove_bit]
  | toLatch => rw [applyMove_toLatch]
  | fail => rw [applyMove_fail]
  | latch => rw [applyMove_latch]

@[simp] theorem applyMove_hw (m : EncMove) (s : State) : (applyMove m s).hw = s.hw := by rw [applyMove_frame]
@[simp] theorem applyMove_cfg (m : EncMove) (s : State) : (applyMove m s).cfg = s.cfg := by rw [applyMove_frame]
@[simp] theorem applyMove_len (m : EncMove) (s : State) : (applyMove m s).len = s.len := by rw [applyMove_frame]
@[simp] theorem applyMove_pb (m : EncMove) (s : State) : (applyMove m s).pb = s.pb := by rw [applyMove_frame]

/-! ## The invariant, operation by operation -/

theorem inv_resetWith {hw : Config} (n : Nat) (h : hw.wf) : (State.resetWith hw n).Inv where
  config := h
  unready _ := ⟨rfl, rfl, rfl⟩
  ready := nofun
  frameLength := nofun
  cursor := Nat.zero_le _
  latchBusy := nofun
  shownLength := rfl
  lineLow := nofun
  dataClean := nofun

theorem inv_respond {s : State} (st : Status) (d : Word32) (h : s.Inv) : (respond st d s).Inv := { h with }

theorem inv_takeRst {s : State} (h : s.Inv) : (takeRst s).Inv := { h with }

theorem inv_atPort {s : State} (h : s.Inv) : (atPort s).Inv := { h with }

theorem inv_applyReset {s : State} (h : s.Inv) : (applyReset s).Inv := { inv_resetWith s.drawn h.config with }

/-- PB may change to any contents of the same length. -/
theorem inv_setPb {s : State} {pb : List Pixel} (h : s.Inv) (hl : pb.length = s.pb.length) :
    State.Inv { s with pb := pb } where
  __ := h
  unready hc := by
    obtain ⟨hlen, hbusy, hpb⟩ := h.unready hc
    exact ⟨hlen, hbusy, List.eq_nil_of_length_eq_zero (by rw [hl, hpb]; rfl)⟩
  ready hc := by rw [hl]; exact h.ready hc

theorem inv_configure {s : State} {pin : Byte} {n : Word32} (h : s.Inv) (hn : lengthAdmitted n s = true) :
    (configure pin n s).Inv where
  config := h.config
  unready hc := absurd rfl hc
  ready _ := ⟨List.length_replicate, of_decide_eq_true hn⟩
  frameLength := nofun
  cursor := Nat.zero_le _
  latchBusy := nofun
  shownLength := List.length_replicate
  lineLow _ := rfl
  dataClean := nofun

theorem inv_failInit {s : State} (h : s.Inv) (hc : s.cfg = .unconfigured) : (failInit s).Inv where
  __ := h
  unready _ := h.unready (by simp [hc])
  ready := nofun
  lineLow := nofun

/-- Frame start meets R37 (c) because PB has its LEN entries and each emits three bytes. -/
theorem inv_beginFrame {s : State} (h : s.Inv) (hc : s.cfg = .ready) : (beginFrame s).Inv where
  __ := h
  unready hn := absurd hc hn
  frameLength _ := by simp [(h.ready hc).1]
  cursor := Nat.zero_le _
  latchBusy := nofun
  dataClean _ _ := rfl

/-- Every kind of outcome of an operation keeps the invariant. -/
theorem inv_of_execShape {i : Instr} {s t : State} (h : s.Inv) (he : ExecShape i s t) : t.Inv := by
  have hdraw : (takeInitOk s).Inv := { h with }
  cases he with
  | configured pin n _ _ hn => exact inv_respond _ _ (inv_configure hdraw hn)
  | initFailed pin n _ hc => exact inv_respond _ _ (inv_failInit hdraw hc)
  | answered pb st d hl => exact inv_respond _ _ (inv_setPb h hl)
  | frameStarted pb hc hl => exact inv_beginFrame (inv_setPb h hl) hc

/-- A frame in flight means READY: outside READY the port never started one (R37 a). -/
theorem ready_of_busy {s : State} (h : s.Inv) (hb : s.busy = true) : s.cfg = .ready := by
  by_contra hc
  obtain ⟨-, hbusy, -⟩ := h.unready hc
  simp [hb] at hbusy

theorem shownAfter_length {s : State} (h : s.frame.length = 3 * s.len.toNat) :
    (shownAfter s).length = s.len.toNat := by
  unfold shownAfter
  split
  · exact List.length_replicate
  · rw [List.length_map, framePixels_length _ _ _ h]

/-- Every enabled move of the encoder keeps the invariant. -/
theorem inv_applyMove {s : State} {m : EncMove} (h : s.Inv) (hb : s.busy = true) (hm : encMove s = .ok m) :
    (applyMove m s).Inv := by
  have hready := ready_of_busy h hb
  rcases encMove_cases hm with ⟨-, rfl⟩ | ⟨-, -, -, rfl⟩ | ⟨hp, -, hc, b, -, rfl⟩ | ⟨-, -, -, rfl⟩
  · rw [applyMove_latch]
    exact { h with
      unready := fun hn => absurd hready hn
      frameLength := nofun
      latchBusy := nofun
      shownLength := shownAfter_length (h.frameLength hb)
      lineLow := fun _ => rfl
      dataClean := nofun }
  · rw [applyMove_fail]
    exact { h with latchBusy := fun _ => hb, dataClean := nofun }
  · rw [applyMove_bit]
    exact { h with cursor := hc, lineLow := fun _ => rfl }
  · rw [applyMove_toLatch]
    exact { h with latchBusy := fun _ => hb, dataClean := nofun }

/-- Settles O44, kind of step by kind of step. -/
theorem stepKeepsInvariant : Obligations.StepKeepsInvariant := by
  intro s t h hs
  cases step_shape hs with
  | reset => exact inv_applyReset h
  | encoder m _ hb hm => exact inv_applyMove (inv_takeRst h) hb hm
  | idle => exact inv_takeRst h
  | operation w ws i _ _ _ _ he => exact inv_of_execShape (inv_atPort h) he
  | illegal => exact inv_respond _ _ (inv_atPort h)

end Sys2Proof.Machine

/-! SUPPORT. Safety and reachability, and who writes the constants, CFG, LEN, PB and the responses: each read off the
kinds of step. -/

namespace Sys2Proof.Machine

/-! ## No step of the invariant stops -/

/-- With PB of LEN entries a write is never out of the buffer: inside the range it finds its entry, outside it does
nothing (20_memory.md R51, R52). -/
theorem storePixel_ok {s : State} (hl : s.pb.length = s.len.toNat) (x : Int) (p : Pixel) :
    ∃ t, storePixel x p s = .ok t := by
  cases hr : inRange x s with
  | true => exact ⟨_, storePixel_inside hr hl⟩
  | false => exact ⟨_, storePixel_outside hr⟩

theorem loadPixel_ok {s : State} (hl : s.pb.length = s.len.toNat) (x : Int) : ∃ p, loadPixel x s = .ok p := by
  cases hr : inRange x s with
  | true =>
    obtain ⟨_, hp⟩ := loadPixel_inside hr hl
    exact ⟨_, hp⟩
  | false => exact ⟨_, loadPixel_outside hr⟩

/-- Every operation answers a next state where PB has its form (60_exceptions.md R159). -/
theorem exec_next {s : State} (h : Memory.wf s = true) (i : Instr) : ∃ t, exec i s = .next t := by
  by_cases hinit : i.opcode = .init
  · cases i with
    | init pin n =>
      by_cases hc : s.cfg = .unconfigured
      · by_cases hok : lengthAdmitted n s = true ∧ initOk s = true
        · exact ⟨_, exec_init_succeeds hc hok.1 hok.2⟩
        · exact ⟨_, exec_init_fails hc hok⟩
      · exact ⟨_, exec_refused (fun _ => hc) (fun hn => absurd rfl hn)⟩
    | _ => cases hinit
  · by_cases hc : s.cfg = .ready
    · have hl := ((Memory.wf_iff s).1 h).1 hc
      cases i with
      | init => exact absurd rfl hinit
      | setPixel x r g b =>
        obtain ⟨t, ht⟩ := storePixel_ok hl x ⟨r, g, b⟩
        exact ⟨_, exec_setPixel_stores hc ht⟩
      | setAll => exact ⟨_, exec_setAll_ready hc⟩
      | clear => exact ⟨_, exec_clear_ready hc⟩
      | present => exact ⟨_, exec_present_ready hc⟩
      | getPixel x =>
        obtain ⟨p, hp⟩ := loadPixel_ok hl x
        exact ⟨_, exec_getPixel_loads hc hp⟩
      | getLength => exact ⟨_, exec_getLength_ready hc⟩
    · exact ⟨_, exec_refused (fun hi => absurd hi hinit) (fun _ => hc)⟩

theorem wf_of_inv {s : State} (h : s.Inv) : Memory.wf s = true :=
  (Memory.wf_iff s).2 ⟨fun hc => (h.ready hc).1, fun hc => ⟨(h.unready hc).1, (h.unready hc).2.2⟩⟩

/-- A frame in flight always has an enabled move: below `24 * LEN` the cursor has its bit, at it the latch follows. -/
theorem encMove_ok {s : State} (h : s.Inv) (hb : s.busy = true) : ∃ m, encMove s = .ok m := by
  cases hp : s.phase with
  | latch => exact ⟨_, encMove_latch hp⟩
  | data =>
    by_cases hf : s.txFault = some s.cur
    · exact ⟨_, encMove_fail hp hf (h.dataClean hb hp)⟩
    · rcases Nat.lt_or_eq_of_le h.cursor with hc | hc
      · obtain ⟨b, hbit⟩ := frameBit_isSome (f := s.frame) (n := s.cur) (by rw [h.frameLength hb]; omega)
        exact ⟨_, encMove_bit hp hf hc hbit⟩
      · exact ⟨_, encMove_toLatch hp hf hc⟩

theorem encStep_of_encMove {s : State} {m : EncMove} (h : encMove s = .ok m) :
    encStep s = .next (applyMove m s) := by
  rw [encStep, h]

/-- Under the invariant no step stops, whatever waits at the ports (R159). -/
theorem safe_of_inv {s : State} (h : s.Inv) : Safe s := by
  cases hr : rstAsserted s with
  | true => exact ⟨_, step_of_reset hr⟩
  | false =>
    cases hb : s.busy with
    | true =>
      obtain ⟨m, hm⟩ := encMove_ok (inv_takeRst h) hb
      exact ⟨_, (step_of_busy hr hb).trans (encStep_of_encMove hm)⟩
    | false =>
      cases hq : s.cmdIn with
      | nil => exact ⟨_, step_of_nothing_waiting hr hb hq⟩
      | cons w ws =>
        rw [Safe, step_of_word hr hb hq]
        cases hd : decode w with
        | op i => rw [frontEnd_of_op hd]; exact exec_next (wf_of_inv (inv_atPort h)) i
        | illegal why => exact ⟨_, frontEnd_of_illegal hd _⟩

/-! ## Reset and reachability -/

/-- Settles O8. -/
theorem resetState : Obligations.ResetState :=
  ⟨fun _ _ => ⟨rfl, rfl, rfl, rfl, rfl, rfl, rfl, rfl, rfl, rfl, rfl, rfl⟩, rfl⟩

/-- Settles O10: the invariant says nothing of what waits at the ports. -/
theorem resetMeetsInvariant : Obligations.ResetMeetsInvariant :=
  fun _ n _ _ _ _ hwf => { inv_resetWith n hwf with }

theorem inv_of_reachable {s : State} (h : Reachable s) : s.Inv := by
  induction h with
  | reset hw n cmds rsts oks txs hwf => exact resetMeetsInvariant hw n cmds rsts oks txs hwf
  | step s t _ hs ih => exact stepKeepsInvariant s t ih hs

/-- Settles O46: the invariant is reached by induction over the run, and it makes the next step safe. -/
theorem reachableStatesAreSafe : Obligations.ReachableStatesAreSafe :=
  fun _ h => ⟨inv_of_reachable h, safe_of_inv (inv_of_reachable h)⟩

/-! ## What a step writes -/

theorem hw_of_execShape {i : Instr} {s t : State} (he : ExecShape i s t) : t.hw = s.hw := by
  cases he <;> rfl

/-- Settles O54, kind of step by kind of step. -/
theorem constantsAreNeverWritten : Obligations.ConstantsAreNeverWritten := by
  intro s t hs
  cases step_shape hs with
  | reset => rfl
  | encoder m => exact applyMove_hw m _
  | idle => rfl
  | operation w ws i _ _ _ _ he => exact (hw_of_execShape he).trans rfl
  | illegal => rfl

/-- CFG and LEN are written by a permitted INIT alone: LEN with READY, or neither but FAILED. -/
theorem cfg_len_of_execShape {i : Instr} {s t : State} (he : ExecShape i s t) :
    (t.cfg = s.cfg ∧ t.len = s.len) ∨
    (∃ pin n, i = .init pin n ∧ s.cfg = .unconfigured ∧
      ((t.cfg = .ready ∧ t.len = n ∧ t.rsp = ⟨0x00, 0⟩) ∨ (t.cfg = .failed ∧ t.len = s.len ∧ t.rsp = ⟨0x01, 0⟩))) := by
  cases he with
  | configured pin n hi hc => exact .inr ⟨pin, n, hi, hc, .inl ⟨rfl, rfl, rfl⟩⟩
  | initFailed pin n hi hc => exact .inr ⟨pin, n, hi, hc, .inr ⟨rfl, rfl, rfl⟩⟩
  | answered => exact .inl ⟨rfl, rfl⟩
  | frameStarted => exact .inl ⟨rfl, rfl⟩

/-- The same of a whole step: CFG and LEN change only by reset and by a permitted INIT. -/
theorem cfg_len_of_step {s t : State} (hs : step s = .next t) :
    (rstAsserted s = true ∧ t.cfg = .unconfigured) ∨
    (rstAsserted s = false ∧ t.cfg = s.cfg ∧ t.len = s.len) ∨
    (rstAsserted s = false ∧ s.cfg = .unconfigured ∧
      ∃ w ws pin n, s.cmdIn = w :: ws ∧ decode w = .op (.init pin n) ∧
        ((t.cfg = .ready ∧ t.len = n ∧ t.rsp = ⟨0x00, 0⟩) ∨ (t.cfg = .failed ∧ t.len = s.len ∧ t.rsp = ⟨0x01, 0⟩))) := by
  cases step_shape hs with
  | reset hr => exact .inl ⟨hr, rfl⟩
  | encoder m hr => exact .inr (.inl ⟨hr, applyMove_cfg m _, applyMove_len m _⟩)
  | idle hr => exact .inr (.inl ⟨hr, rfl, rfl⟩)
  | operation w ws i hr _ hq hd he =>
    rcases cfg_len_of_execShape he with ⟨hcfg, hlen⟩ | ⟨pin, n, rfl, hc, hout⟩
    · exact .inr (.inl ⟨hr, hcfg, hlen⟩)
    · exact .inr (.inr ⟨hr, hc, w, ws, pin, n, hq, hd, hout⟩)
  | illegal w ws hr => exact .inr (.inl ⟨hr, rfl, rfl⟩)

/-- Settles O47, from what a step does to CFG. -/
theorem configTransitions : Obligations.ConfigTransitions := by
  intro s t hs hne
  rcases cfg_len_of_step hs with hreset | ⟨-, hcfg, -⟩ | ⟨hr, hc, w, ws, pin, n, hq, hd, hout⟩
  · exact .inl hreset
  · exact absurd hcfg hne
  · refine .inr ⟨hr, hc, ⟨w, ws, pin, n, hq, hd⟩, ?_⟩
    rcases hout with ⟨hready, -, hrsp⟩ | ⟨hfailed, -, hrsp⟩
    · exact .inl ⟨hready, hrsp⟩
    · exact .inr ⟨hfailed, hrsp⟩

/-- LEN is at most MAX_LEN under the invariant, configured or not. -/
theorem len_le_maxLen {s : State} (h : s.Inv) : s.len.toNat ≤ s.hw.maxLen := by
  by_cases hc : s.cfg = .ready
  · exact (h.ready hc).2
  · rw [(h.unready hc).1]; exact Nat.zero_le _

/-- Settles O48: the bounds are the invariant's after the step, the writers those of `cfg_len_of_step`. -/
theorem lengthIsFixed : Obligations.LengthIsFixed := by
  intro s t h hs
  have ht := stepKeepsInvariant s t h hs
  have hmax := len_le_maxLen ht
  refine ⟨hmax, hmax.trans ht.config.1, fun hne => ?_⟩
  rcases cfg_len_of_step hs with ⟨hr, -⟩ | ⟨-, -, hlen⟩ | ⟨-, hc, w, ws, pin, n, hq, hd, hout⟩
  · exact .inl hr
  · exact absurd hlen hne
  · rcases hout with ⟨hready, rfl, -⟩ | ⟨-, hlen, -⟩
    · exact .inr ⟨hc, hready, w, ws, pin, hq, hd⟩
    · exact absurd hlen hne

theorem pb_of_execShape {i : Instr} {s t : State} (he : ExecShape i s t) :
    t.pb = s.pb ∨ i.opcode = .init ∨ i.opcode = .setPixel ∨ i.opcode = .setAll ∨ i.opcode = .clear := by
  cases he with
  | configured pin n hi => exact .inr (.inl (by rw [hi]; rfl))
  | initFailed => exact .inl rfl
  | answered pb st d _ hw =>
    rcases hw with hpb | hsetPixel | hsetAll
    · exact .inl hpb
    · exact .inr (.inr (.inl hsetPixel))
    · exact .inr (.inr (.inr (.inl hsetAll)))
  | frameStarted pb _ _ hw => exact hw.imp id fun hclear => .inr (.inr (.inr hclear))

/-- Settles O49: of the kinds of step only reset and an operation can write PB, and `pb_of_execShape` names which. -/
theorem bufferWriters : Obligations.BufferWriters := by
  intro s t hs hne
  cases step_shape hs with
  | reset hr => exact .inl hr
  | encoder m => exact absurd (applyMove_pb m _) hne
  | idle => exact absurd rfl hne
  | operation w ws i _ hb hq hd he =>
    exact .inr ⟨hb, w, ws, i, hq, hd, (pb_of_execShape he).resolve_left hne⟩
  | illegal => exact absurd rfl hne

/-! ## Responses -/

/-- An operation from BUSY = 0 starts a frame and answers nothing, or answers once and starts none. -/
theorem response_of_execShape {i : Instr} {s t : State} (hb : s.busy = false) (he : ExecShape i s t) :
    (t.busy = true ∧ t.rsp = s.rsp ∧ t.rspLog = s.rspLog) ∨ (t.busy = false ∧ t.rspLog = s.rspLog ++ [t.rsp]) := by
  cases he with
  | configured => exact .inr ⟨rfl, rfl⟩
  | initFailed => exact .inr ⟨hb, rfl⟩
  | answered => exact .inr ⟨hb, rfl⟩
  | frameStarted => exact .inl ⟨rfl, rfl, rfl⟩

/-- A move of the encoder leaves the frame in flight and answers nothing, but the latch, which ends it and answers. -/
theorem response_of_applyMove (m : EncMove) {s : State} (hb : s.busy = true) :
    ((applyMove m s).busy = true ∧ (applyMove m s).rsp = s.rsp ∧ (applyMove m s).rspLog = s.rspLog) ∨
    ((applyMove m s).busy = false ∧ (applyMove m s).rspLog = s.rspLog ++ [(applyMove m s).rsp]) := by
  cases m with
  | bit b => rw [applyMove_bit]; exact .inl ⟨hb, rfl, rfl⟩
  | toLatch => exact .inl ⟨hb, rfl, rfl⟩
  | fail => exact .inl ⟨hb, rfl, rfl⟩
  | latch => exact .inr ⟨rfl, rfl⟩

/-- Settles O13, kind of step by kind of step. -/
theorem oneResponsePerOperation : Obligations.OneResponsePerOperation := by
  intro s t hr hs
  cases step_shape hs with
  | reset hrst => simp [hr] at hrst
  | encoder m _ hb hm =>
    exact ⟨fun hidle => by simp [hb] at hidle, fun _ => response_of_applyMove m hb⟩
  | idle _ hb hq =>
    exact ⟨fun _ _ => ⟨rfl, rfl⟩, fun hor => by simp [hb, hq] at hor⟩
  | operation w ws i _ hb hq _ he =>
    exact ⟨fun _ hnil => by simp [hq] at hnil, fun _ => response_of_execShape (s := atPort s) hb he⟩
  | illegal w ws _ hb hq =>
    exact ⟨fun _ hnil => by simp [hq] at hnil, fun _ => .inr ⟨hb, rfl⟩⟩

end Sys2Proof.Machine

/-! SUPPORT. How a step moves the counts of TRACE and NFRAMES, and that PIN is read by nothing. -/

namespace Sys2Proof.Machine

/-! ## Counting the line -/

/-- How many segments of a trace have a level. -/
def levelCount (l : Level) (t : List Segment) : Nat := (t.map Segment.level).count l

theorem levelCount_append (l : Level) (a b : List Segment) :
    levelCount l (a ++ b) = levelCount l a + levelCount l b := by
  rw [levelCount, List.map_append, List.count_append]; rfl

@[simp] theorem levelCount_sym (l : Level) (hw : Config) (b : Bool) : levelCount l (sym hw b) = 1 := by
  cases b <;> cases l <;> rfl

theorem levelCount_latchSym_high (hw : Config) : levelCount .high (latchSym hw) = 0 := rfl

theorem levelCount_latchSym_low (hw : Config) : levelCount .low (latchSym hw) = 1 := rfl

theorem line_of_execShape {i : Instr} {s t : State} (he : ExecShape i s t) :
    t.trace = s.trace ∧ t.nframes = s.nframes := by
  cases he <;> exact ⟨rfl, rfl⟩

/-- A step from BUSY = 0 emits nothing and ends no frame (20_memory.md R62). -/
theorem line_of_idle_step {s t : State} (hr : rstAsserted s = false) (hb : s.busy = false) (hs : step s = .next t) :
    t.trace = s.trace ∧ t.nframes = s.nframes := by
  cases step_shape hs with
  | reset hrst => simp [hr] at hrst
  | encoder m _ hbusy => simp [hb] at hbusy
  | idle => exact ⟨rfl, rfl⟩
  | operation w ws i _ _ _ _ he => exact line_of_execShape (s := atPort s) he
  | illegal => exact ⟨rfl, rfl⟩

/-- A move emits one high where it leaves the frame in flight with the cursor one further (the bit), and counts a frame
where it ends one (the latch). -/
theorem highs_and_frames_of_applyMove (m : EncMove) {s : State} (hb : s.busy = true) :
    levelCount .high (applyMove m s).trace = levelCount .high s.trace +
      (if s.busy = true ∧ (applyMove m s).busy = true ∧ (applyMove m s).cur = s.cur + 1 then 1 else 0) ∧
    (applyMove m s).nframes = s.nframes + (if s.busy = true ∧ (applyMove m s).busy = false then 1 else 0) := by
  cases m with
  | bit b => simp [applyMove_bit, levelCount_append, hb]
  | toLatch => simp [applyMove_toLatch, hb]
  | fail => simp [applyMove_fail, hb]
  | latch => simp [applyMove_latch, levelCount_append, levelCount_latchSym_high, hb]

/-- A move adds as many lows as highs and ended frames together. -/
theorem lows_balance_of_applyMove (m : EncMove) (s : State) :
    levelCount .low (applyMove m s).trace + (levelCount .high s.trace + s.nframes) =
      levelCount .low s.trace + (levelCount .high (applyMove m s).trace + (applyMove m s).nframes) := by
  cases m with
  | bit b => simp only [applyMove_bit, levelCount_append, levelCount_sym]; omega
  | toLatch => rfl
  | fail => rfl
  | latch =>
    simp only [applyMove_latch, levelCount_append, levelCount_latchSym_high, levelCount_latchSym_low]; omega

theorem highs_and_frames_of_step {s t : State} (hr : rstAsserted s = false) (hs : step s = .next t) :
    levelCount .high t.trace = levelCount .high s.trace +
      (if s.busy = true ∧ t.busy = true ∧ t.cur = s.cur + 1 then 1 else 0) ∧
    t.nframes = s.nframes + (if s.busy = true ∧ t.busy = false then 1 else 0) := by
  by_cases hb : s.busy = true
  · rw [step_of_busy hr hb] at hs
    obtain ⟨m, -, rfl⟩ := encStep_next hs
    exact highs_and_frames_of_applyMove m (s := takeRst s) hb
  · obtain ⟨htrace, hframes⟩ := line_of_idle_step hr (by simpa using hb) hs
    simp [htrace, hframes, hb]

theorem lows_of_step {s t : State} (hs : step s = .next t)
    (h : levelCount .low s.trace = levelCount .high s.trace + s.nframes) :
    levelCount .low t.trace = levelCount .high t.trace + t.nframes := by
  cases hr : rstAsserted s with
  | true =>
    rw [step_of_reset hr] at hs
    injection hs with hs
    subst hs
    rfl
  | false =>
    cases hb : s.busy with
    | false =>
      obtain ⟨htrace, hframes⟩ := line_of_idle_step hr hb hs
      rw [htrace, hframes, h]
    | true =>
      rw [step_of_busy hr hb] at hs
      obtain ⟨m, -, rfl⟩ := encStep_next hs
      have hbal := lows_balance_of_applyMove m (takeRst s)
      rw [takeRst_trace, takeRst_nframes, h] at hbal
      exact Nat.add_left_cancel (hbal.symm.trans (Nat.add_comm _ _)).symm

/-- Settles O53: its three parts are the counts of a step, the balance every step keeps, and the empty trace. -/
theorem traceCountsBitsAndFrames : Obligations.TraceCountsBitsAndFrames :=
  ⟨fun _ _ => highs_and_frames_of_step, fun _ _ => lows_of_step, fun _ _ => rfl⟩

/-! ## What a write to PB reads -/

/-- A write to PB reads LEN and PB alone, and so does the same to any state that has these two. -/
theorem storePixel_congr {s s' : State} (hl : s'.len = s.len) (hp : s'.pb = s.pb) (x : Int) (v : Pixel) :
    storePixel x v s' = (storePixel x v s).map fun u => { s' with pb := u.pb } := by
  have hr : inRange x s' = inRange x s := by rw [inRange, hl, inRange]
  rw [storePixel, storePixel, hr, hp]
  split
  · split <;> rfl
  · rw [Except.map, ← hp]

theorem storePixel_ok_congr {s s' u : State} {x : Int} {v : Pixel} (hl : s'.len = s.len) (hp : s'.pb = s.pb)
    (h : storePixel x v s = .ok u) : storePixel x v s' = .ok { s' with pb := u.pb } := by
  rw [storePixel_congr hl hp, h, Except.map]

/-- A write to PB writes nothing else. -/
theorem eq_setPb_of_storePixel {x : Int} {v : Pixel} {s u : State} (h : storePixel x v s = .ok u) :
    u = { s with pb := u.pb } := by
  rcases storePixel_cases h with rfl | ⟨-, -, rfl⟩ <;> rfl

/-! ## PIN is read by nothing -/

/-- The state with another PIN. -/
def withPin (p : Byte) (s : State) : State := { s with pin := p }

/-- Two answers agree but for PIN: next states that differ in PIN at most, or the same stop. -/
def AgreeButPin : Result → Result → Prop
  | .next t, r => ∃ q, r = .next (withPin q t)
  | .fault f, r => r = .fault f
  | .refused x, r => r = .refused x

section
variable (p : Byte) (s : State)

@[simp] theorem initOk_withPin : initOk (withPin p s) = initOk s := rfl
@[simp] theorem lengthAdmitted_withPin (n : Word32) : lengthAdmitted n (withPin p s) = lengthAdmitted n s := rfl
@[simp] theorem loadPixel_withPin (x : Int) : loadPixel x (withPin p s) = loadPixel x s := rfl
@[simp] theorem encMove_withPin : encMove (withPin p s) = encMove s := rfl

theorem applyMove_withPin (m : EncMove) : applyMove m (withPin p s) = withPin p (applyMove m s) := by
  cases m with
  | bit b => rw [applyMove_bit, applyMove_bit]; rfl
  | _ => rfl

theorem agreeButPin_onlyReady {k k' : Result} (h : AgreeButPin k k') :
    AgreeButPin (onlyReady s k) (onlyReady (withPin p s) k') := by
  by_cases hc : s.cfg = .ready
  · rw [onlyReady_ready hc, onlyReady_ready (s := withPin p s) hc]; exact h
  · rw [onlyReady_refuses hc, onlyReady_refuses (s := withPin p s) hc]; exact ⟨p, rfl⟩

theorem agreeButPin_onlyUnconfigured {k k' : Result} (h : AgreeButPin k k') :
    AgreeButPin (onlyUnconfigured s k) (onlyUnconfigured (withPin p s) k') := by
  by_cases hc : s.cfg = .unconfigured
  · rw [onlyUnconfigured_unconfigured hc, onlyUnconfigured_unconfigured (s := withPin p s) hc]; exact h
  · rw [onlyUnconfigured_refuses hc, onlyUnconfigured_refuses (s := withPin p s) hc]; exact ⟨p, rfl⟩

theorem agreeButPin_exec (i : Instr) : AgreeButPin (exec i s) (exec i (withPin p s)) := by
  cases i with
  | init pin n =>
    refine agreeButPin_onlyUnconfigured p s ?_
    rw [lengthAdmitted_withPin, initOk_withPin]
    split
    · exact ⟨pin, rfl⟩
    · exact ⟨p, rfl⟩
  | setPixel x r g b =>
    refine agreeButPin_onlyReady p s ?_
    rw [storePixel_congr (s := s) (s' := withPin p s) rfl rfl]
    cases hu : storePixel x ⟨r, g, b⟩ s with
    | ok u => exact ⟨p, by rw [eq_setPb_of_storePixel hu]; rfl⟩
    | error f => exact rfl
  | setAll => exact agreeButPin_onlyReady p s ⟨p, rfl⟩
  | clear => exact agreeButPin_onlyReady p s ⟨p, rfl⟩
  | present => exact agreeButPin_onlyReady p s ⟨p, rfl⟩
  | getPixel x =>
    refine agreeButPin_onlyReady p s ?_
    rw [loadPixel_withPin]
    cases loadPixel x s with
    | ok v => exact ⟨p, rfl⟩
    | error f => exact rfl
  | getLength => exact agreeButPin_onlyReady p s ⟨p, rfl⟩

theorem agreeButPin_encStep : AgreeButPin (encStep s) (encStep (withPin p s)) := by
  unfold encStep
  rw [encMove_withPin]
  cases encMove s with
  | ok m => exact ⟨p, congrArg _ (applyMove_withPin p s m)⟩
  | error f => exact rfl

theorem agreeButPin_frontEnd (w : Command) : AgreeButPin (frontEnd w s) (frontEnd w (withPin p s)) := by
  cases hd : decode w with
  | op i => rw [frontEnd_of_op hd, frontEnd_of_op hd]; exact agreeButPin_exec p s i
  | illegal => rw [frontEnd_of_illegal hd, frontEnd_of_illegal hd]; exact ⟨p, rfl⟩

theorem agreeButPin_step : AgreeButPin (step s) (step (withPin p s)) := by
  cases hr : rstAsserted s with
  | true =>
    rw [step_of_reset hr, step_of_reset (s := withPin p s) hr]
    exact ⟨Config.freePin s.drawn, rfl⟩
  | false =>
    cases hb : s.busy with
    | true =>
      rw [step_of_busy hr hb, step_of_busy (s := withPin p s) hr hb]
      exact agreeButPin_encStep p (takeRst s)
    | false =>
      cases hq : s.cmdIn with
      | nil =>
        rw [step_of_nothing_waiting hr hb hq, step_of_nothing_waiting (s := withPin p s) hr hb hq]
        exact ⟨p, rfl⟩
      | cons w ws =>
        rw [step_of_word hr hb hq, step_of_word (s := withPin p s) hr hb hq]
        exact agreeButPin_frontEnd p (atPort s) w

end

/-- The INIT that makes the block READY writes the pin it was given. -/
theorem pin_of_init {s t : State} {pin : Byte} {n : Word32} (h : exec (.init pin n) s = .next t)
    (ht : t.cfg = .ready) (hs : s.cfg = .unconfigured) : t.pin = pin := by
  cases exec_shape h with
  | configured _ _ hi => cases hi; rfl
  | initFailed => cases ht
  | answered => cases hs.symm.trans ht
  | frameStarted _ hc => cases hs.symm.trans hc

/-- Settles O51: INIT's own write, and the agreement of the two steps read at a next state and at a fault. -/
theorem pinIsNeverRead : Obligations.PinIsNeverRead := by
  refine ⟨fun s t pin n => pin_of_init, fun s p => ?_⟩
  have hagree := agreeButPin_step p s
  constructor
  · intro t ht
    rw [ht] at hagree
    exact hagree
  · intro f hf
    rw [hf] at hagree
    exact hagree

end Sys2Proof.Machine

/-! SUPPORT. The observations are read by nothing, and the waveform of a trace. -/

namespace Sys2Proof.Machine

/-! ## The observations are read by nothing -/

/-- The state with other observations: TRACE, NFRAMES, SHOWN and the log of responses. -/
def withObservations (tr : List Segment) (n : Nat) (sh : List (Option Pixel)) (rl : List Rsp) (s : State) : State :=
  { s with trace := tr, nframes := n, shown := sh, rspLog := rl }

/-- `f`, which leads from `s` to `t`, appends some segments and responses, and from any other observations it appends
the same and does the same to everything else. -/
def AppendsBlindly (f : State → Result) (s t : State) : Prop :=
  ∃ segs rs, t.trace = s.trace ++ segs ∧ t.rspLog = s.rspLog ++ rs ∧
    ∀ tr n sh rl, ∃ n' sh', f (withObservations tr n sh rl s) =
      .next (withObservations (tr ++ segs) n' sh' (rl ++ rs) t)

/-- The form of `AppendsBlindly` for what leaves the line alone. -/
theorem appendsBlindly_of_silent {f : State → Result} {s t : State} (rs : List Rsp) (htrace : t.trace = s.trace)
    (hlog : t.rspLog = s.rspLog ++ rs)
    (hf : ∀ tr n sh rl, ∃ sh', f (withObservations tr n sh rl s) = .next (withObservations tr n sh' (rl ++ rs) t)) :
    AppendsBlindly f s t := by
  refine ⟨[], rs, by rw [htrace, List.append_nil], hlog, fun tr n sh rl => ?_⟩
  obtain ⟨sh', h⟩ := hf tr n sh rl
  exact ⟨n, sh', by rw [h, List.append_nil]⟩

/-- An operation answers at once or not at all, and emits nothing. -/
theorem appendsBlindly_exec {i : Instr} {s t : State} (h : exec i s = .next t) : AppendsBlindly (exec i) s t := by
  rcases exec_cases h with ⟨h1, h2, rfl⟩ | ⟨pin, n, rfl, hc, hn, ho, rfl⟩ | ⟨pin, n, rfl, hc, hno, rfl⟩ |
    ⟨x, r, g, b, u, rfl, hc, hu, rfl⟩ | ⟨r, g, b, rfl, hc, rfl⟩ | ⟨rfl, hc, rfl⟩ | ⟨rfl, hc, rfl⟩ |
    ⟨x, p, rfl, hc, hp, rfl⟩ | ⟨rfl, hc, rfl⟩
  · exact appendsBlindly_of_silent [_] rfl rfl fun tr n sh rl =>
      ⟨sh, exec_refused (s := withObservations tr n sh rl s) h1 h2⟩
  · exact appendsBlindly_of_silent [_] rfl rfl fun tr k sh rl =>
      ⟨_, exec_init_succeeds (s := withObservations tr k sh rl s) hc hn ho⟩
  · exact appendsBlindly_of_silent [_] rfl rfl fun tr k sh rl =>
      ⟨sh, exec_init_fails (s := withObservations tr k sh rl s) hc hno⟩
  · have hu' (tr n sh rl) := storePixel_ok_congr (s := s) (s' := withObservations tr n sh rl s) rfl rfl hu
    rw [eq_setPb_of_storePixel hu]
    exact appendsBlindly_of_silent [_] rfl rfl fun tr n sh rl =>
      ⟨sh, exec_setPixel_stores (s := withObservations tr n sh rl s) hc (hu' tr n sh rl)⟩
  · exact appendsBlindly_of_silent [_] rfl rfl fun tr n sh rl =>
      ⟨sh, exec_setAll_ready (s := withObservations tr n sh rl s) hc⟩
  · exact appendsBlindly_of_silent [] rfl (List.append_nil _).symm fun tr n sh rl =>
      ⟨sh, by rw [exec_clear_ready (s := withObservations tr n sh rl s) hc, List.append_nil]; rfl⟩
  · exact appendsBlindly_of_silent [] rfl (List.append_nil _).symm fun tr n sh rl =>
      ⟨sh, by rw [exec_present_ready (s := withObservations tr n sh rl s) hc, List.append_nil]; rfl⟩
  · exact appendsBlindly_of_silent [_] rfl rfl fun tr n sh rl =>
      ⟨sh, exec_getPixel_loads (s := withObservations tr n sh rl s) hc hp⟩
  · exact appendsBlindly_of_silent [_] rfl rfl fun tr n sh rl =>
      ⟨sh, exec_getLength_ready (s := withObservations tr n sh rl s) hc⟩

/-- Which move is enabled does not depend on the observations, and each move appends its pulses and its response. -/
theorem appendsBlindly_encStep {s : State} {m : EncMove} (hm : encMove s = .ok m) :
    AppendsBlindly encStep s (applyMove m s) := by
  have hstep (tr n sh rl) : encStep (withObservations tr n sh rl s) =
      .next (applyMove m (withObservations tr n sh rl s)) := encStep_of_encMove hm
  cases m with
  | bit b =>
    refine ⟨sym s.hw b, [], by rw [applyMove_bit], by rw [applyMove_bit, List.append_nil], fun tr n sh rl =>
      ⟨n, sh, ?_⟩⟩
    rw [hstep, applyMove_bit, applyMove_bit, List.append_nil]; rfl
  | toLatch =>
    exact appendsBlindly_of_silent [] rfl (List.append_nil _).symm fun tr n sh rl =>
      ⟨sh, by rw [hstep, List.append_nil]; rfl⟩
  | fail =>
    exact appendsBlindly_of_silent [] rfl (List.append_nil _).symm fun tr n sh rl =>
      ⟨sh, by rw [hstep, List.append_nil]; rfl⟩
  | latch => exact ⟨latchSym s.hw, [_], rfl, rfl, fun tr n sh rl => ⟨n + 1, shownAfter s, hstep tr n sh rl⟩⟩

theorem appendsBlindly_step {s t : State} (hr : rstAsserted s = false) (hs : step s = .next t) :
    AppendsBlindly step s t := by
  rcases step_cases hs with ⟨hrst, -⟩ | ⟨-, hb, m, hm, rfl⟩ | ⟨-, hb, hq, rfl⟩ | ⟨-, hb, w, ws, i, hq, hd, he⟩ |
    ⟨-, hb, w, ws, why, hq, hd, rfl⟩
  · simp [hr] at hrst
  · obtain ⟨segs, rs, htrace, hlog, hother⟩ := appendsBlindly_encStep hm
    refine ⟨segs, rs, htrace, hlog, fun tr n sh rl => ?_⟩
    rw [step_of_busy (s := withObservations tr n sh rl s) hr hb]
    exact hother tr n sh rl
  · exact appendsBlindly_of_silent [] rfl (List.append_nil _).symm fun tr n sh rl =>
      ⟨sh, by rw [step_of_nothing_waiting (s := withObservations tr n sh rl s) hr hb hq, List.append_nil]; rfl⟩
  · obtain ⟨segs, rs, htrace, hlog, hother⟩ := appendsBlindly_exec he
    refine ⟨segs, rs, htrace, hlog, fun tr n sh rl => ?_⟩
    rw [step_of_word (s := withObservations tr n sh rl s) hr hb hq, frontEnd_of_op hd]
    exact hother tr n sh rl
  · exact appendsBlindly_of_silent [_] rfl rfl fun tr n sh rl =>
      ⟨sh, (step_of_word (s := withObservations tr n sh rl s) hr hb hq).trans (frontEnd_of_illegal hd _)⟩

/-- Settles O52: `AppendsBlindly` of a step, its other observations spelled as a state update. -/
theorem observationsAreNeverRead : Obligations.ObservationsAreNeverRead :=
  fun _ _ => appendsBlindly_step

/-! ## The waveform -/

theorem wave_cons_of_nil {a : Segment} {rest : List Segment} (h : wave rest = []) : wave (a :: rest) = [a] := by
  rw [wave, h]

theorem wave_cons_merge {a b : Segment} {rest more : List Segment} (h : wave rest = b :: more)
    (hl : a.level = b.level) : wave (a :: rest) = ⟨a.level, a.ns + b.ns⟩ :: more := by
  rw [wave, h]; exact if_pos hl

theorem wave_cons_new {a b : Segment} {rest more : List Segment} (h : wave rest = b :: more)
    (hl : a.level ≠ b.level) : wave (a :: rest) = a :: b :: more := by
  rw [wave, h]; exact if_neg hl

/-- What a segment in front does to a waveform: it stands alone, is merged into the first segment, or comes before it. -/
theorem wave_cons_cases (a : Segment) (rest : List Segment) :
    (wave rest = [] ∧ wave (a :: rest) = [a]) ∨
    (∃ b more, wave rest = b :: more ∧ a.level = b.level ∧ wave (a :: rest) = ⟨a.level, a.ns + b.ns⟩ :: more) ∨
    (∃ b more, wave rest = b :: more ∧ a.level ≠ b.level ∧ wave (a :: rest) = a :: b :: more) := by
  cases h : wave rest with
  | nil => exact .inl ⟨rfl, wave_cons_of_nil h⟩
  | cons b more =>
    by_cases hl : a.level = b.level
    · exact .inr (.inl ⟨b, more, rfl, hl, wave_cons_merge h hl⟩)
    · exact .inr (.inr ⟨b, more, rfl, hl, wave_cons_new h hl⟩)

/-- A run of one level that a segment of the waveform stands for. -/
def RunOf (run : List Segment) (g : Segment) : Prop :=
  run ≠ [] ∧ (∀ x ∈ run, x.level = g.level) ∧ g.ns = duration run

theorem duration_cons (a : Segment) (t : List Segment) : duration (a :: t) = a.ns + duration t := rfl

theorem runOf_singleton (a : Segment) : RunOf [a] a := by simp [RunOf, duration]

theorem runOf_cons {a b : Segment} {run : List Segment} (h : RunOf run b) (hl : a.level = b.level) :
    RunOf (a :: run) ⟨a.level, a.ns + b.ns⟩ := by
  obtain ⟨-, hlevel, hns⟩ := h
  refine ⟨List.cons_ne_nil _ _, fun x hx => ?_, by rw [duration_cons, hns]⟩
  rcases List.mem_cons.1 hx with rfl | hx
  · rfl
  · exact (hlevel x hx).trans hl.symm

/-- A trace is cut into the runs of its waveform. -/
theorem wave_runs (t : List Segment) :
    ∃ runs : List (List Segment), runs.flatten = t ∧ List.Forall₂ RunOf runs (wave t) := by
  induction t with
  | nil => exact ⟨[], rfl, .nil⟩
  | cons a rest ih =>
    obtain ⟨runs, rfl, hruns⟩ := ih
    rcases wave_cons_cases a runs.flatten with ⟨hw, ha⟩ | ⟨b, more, hw, hl, ha⟩ | ⟨b, more, hw, hl, ha⟩ <;>
      rw [hw] at hruns <;> rw [ha]
    · cases hruns
      exact ⟨[[a]], rfl, .cons (runOf_singleton a) .nil⟩
    · cases hruns with
      | cons hrun hmore => exact ⟨(a :: _) :: _, rfl, .cons (runOf_cons hrun hl) hmore⟩
    · exact ⟨[a] :: runs, rfl, .cons (runOf_singleton a) hruns⟩

/-- No two neighbours of a waveform have one level. -/
theorem wave_isChain (t : List Segment) : (wave t).IsChain (fun a b => a.level ≠ b.level) := by
  induction t with
  | nil => exact .nil
  | cons a rest ih =>
    rcases wave_cons_cases a rest with ⟨-, ha⟩ | ⟨b, more, hw, hl, ha⟩ | ⟨b, more, hw, hl, ha⟩ <;> rw [ha]
    · exact .singleton a
    · rw [hw] at ih
      cases ih with
      | singleton => exact .singleton _
      | cons_cons hne hmore => exact .cons_cons (hl ▸ hne) hmore
    · rw [hw] at ih
      exact .cons_cons hl ih

theorem duration_wave (t : List Segment) : duration (wave t) = duration t := by
  induction t with
  | nil => rfl
  | cons a rest ih =>
    rcases wave_cons_cases a rest with ⟨hw, ha⟩ | ⟨b, more, hw, -, ha⟩ | ⟨b, more, hw, -, ha⟩ <;>
      rw [ha, duration_cons a rest, ← ih, hw] <;> simp only [duration_cons]
    · omega

/-- A waveform of two or more segments keeps its last segment when more of the trace is put in front: a merge reaches
the first segment alone. -/
theorem wave_append_last {xs ys front : List Segment} {g : Segment} (hne : front ≠ []) (h : wave ys = front ++ [g]) :
    ∃ front', front' ≠ [] ∧ wave (xs ++ ys) = front' ++ [g] := by
  induction xs with
  | nil => exact ⟨front, hne, h⟩
  | cons a xs ih =>
    obtain ⟨front', hne', hw'⟩ := ih
    obtain ⟨c, cs, rfl⟩ := List.exists_cons_of_ne_nil hne'
    by_cases hl : a.level = c.level
    · exact ⟨_ :: cs, List.cons_ne_nil _ _, wave_cons_merge hw' hl⟩
    · exact ⟨a :: c :: cs, List.cons_ne_nil _ _, wave_cons_new hw' hl⟩

/-- A pulse pair and the latch: the two lows are one segment (30_encoding.md R84). -/
theorem wave_sym_latchSym (hw : Config) (b : Bool) :
    ∃ h, wave (sym hw b ++ latchSym hw) = [h] ++ [⟨.low, (if b = true then hw.t1l else hw.t0l) + hw.tLatch⟩] := by
  cases b <;> exact ⟨_, rfl⟩

/-- A train of at least one byte ends in the symbol of its last byte's last bit, then the latch. -/
theorem train_append_singleton (hw : Config) (f : List Byte) (v : Byte) :
    ∃ front, train hw (f ++ [v]) = front ++ (sym hw (v.getLsbD 0) ++ latchSym hw) := by
  refine ⟨f.flatMap (byteSyms hw) ++ ((byteBits v).take 7).flatMap (sym hw), ?_⟩
  simp [train, byteSyms, byteBits]

/-- Settles O42: the runs, the neighbours and the total by induction over the trace, the last low from how the train
ends. -/
theorem waveMergesLevels : Obligations.WaveMergesLevels := by
  refine ⟨fun t => ⟨wave_runs t, wave_isChain t, duration_wave t⟩, fun hw f v => ?_⟩
  obtain ⟨front, htrain⟩ := train_append_singleton hw f v
  obtain ⟨h, hlast⟩ := wave_sym_latchSym hw (v.getLsbD 0)
  obtain ⟨front', -, hwave⟩ := wave_append_last (xs := front) (List.cons_ne_nil h []) hlast
  exact ⟨front', by rw [htrain, hwave]⟩

end Sys2Proof.Machine

/-! SUPPORT. The pixel buffer as a memory: reading after writing, writing again, what the four operations that do not
transmit leave unchanged, and that the line and the buffer stay apart (20_memory.md). -/

namespace Sys2Proof.Machine

/-! ## One entry of PB -/

/-- A write inside the range either stops or sets its entry, and it stops only where PB has no such entry
(20_memory.md R51). -/
theorem storePixel_inRange_iff {x : Int} {p : Pixel} {s u : State} (hr : inRange x s = true) :
    storePixel x p s = .ok u ↔ x.toNat < s.pb.length ∧ u = { s with pb := s.pb.set x.toNat p } := by
  rw [storePixel, if_pos hr]
  split <;> simp [*, eq_comm]

/-- Writing the same once more changes nothing (20_memory.md R60). -/
theorem storePixel_again {x : Int} {p : Pixel} {s u : State} (h : storePixel x p s = .ok u) :
    storePixel x p u = .ok u := by
  cases hr : inRange x s with
  | false =>
    have hu : u = s := Except.ok.inj (h.symm.trans (storePixel_outside hr))
    rw [hu, storePixel_outside hr]
  | true =>
    obtain ⟨hx, rfl⟩ := (storePixel_inRange_iff hr).1 h
    exact (storePixel_inRange_iff (s := { s with pb := s.pb.set x.toNat p }) hr).2
      ⟨by rwa [List.length_set], by simp only [List.set_set]⟩

theorem storePixel_entry {x : Int} {p : Pixel} {s u : State} (hr : inRange x s = true)
    (h : storePixel x p s = .ok u) : u.pb[x.toNat]? = some p := by
  obtain ⟨hx, rfl⟩ := (storePixel_inRange_iff hr).1 h
  exact List.getElem?_set_self hx

theorem storePixel_otherEntry {x : Int} {p : Pixel} {s u : State} {j : Nat} (h : storePixel x p s = .ok u)
    (hj : (j : Int) ≠ x) : u.pb[j]? = s.pb[j]? := by
  rcases storePixel_cases h with rfl | ⟨hr, -, rfl⟩
  · rfl
  · have hx := inRange_iff.1 hr
    exact List.getElem?_set_ne (by omega)

theorem fillPixels_again (p : Pixel) (st : Status) (d : Word32) (s : State) :
    fillPixels p (respond st d (fillPixels p s)) = respond st d (fillPixels p s) := by
  simp [fillPixels, respond]

/-- Inside `[0, LEN)` a read gives what PB holds there. -/
theorem loadPixel_of_entry {j : Int} {p : Pixel} {s : State} (hr : inRange j s = true)
    (h : s.pb[j.toNat]? = some p) : loadPixel j s = .ok p := by
  rw [loadPixel, if_pos hr, h]

/-- A read depends on LEN and on the entry it names, no more. -/
theorem loadPixel_congr {j : Int} {s u : State} (hl : u.len = s.len) (hp : u.pb[j.toNat]? = s.pb[j.toNat]?) :
    loadPixel j u = loadPixel j s := by
  rw [loadPixel, loadPixel, inRange, hl, hp, inRange]

/-- A read gives the latest write to its index, and an index not written keeps what it had (20_memory.md R61). -/
theorem loadPixel_of_storePixel {i j : Int} {p q : Pixel} {s u : State} (hj : inRange j s = true)
    (hu : storePixel i p s = .ok u) (hq : loadPixel j s = .ok q) :
    loadPixel j u = .ok (if i = j then p else q) := by
  have hlen : u.len = s.len := by rw [eq_setPb_of_storePixel hu]
  split
  · next hij =>
    subst hij
    exact loadPixel_of_entry (by rw [inRange, hlen]; exact hj) (storePixel_entry hj hu)
  · next hij =>
    have h0 := (inRange_iff.1 hj).1
    rw [loadPixel_congr hlen (storePixel_otherEntry hu (by omega)), hq]

theorem loadPixel_fillPixels {j : Int} {p : Pixel} {s : State} (hj : inRange j s = true)
    (hl : s.pb.length = s.len.toNat) : loadPixel j (fillPixels p s) = .ok p := by
  obtain ⟨hi, -⟩ := loadPixel_inside hj hl
  exact loadPixel_of_entry hj (by simp [hi])

/-- Settles O22, from what a read gives after a write to one entry and after a write to all. -/
theorem readGivesLatestWrite : Obligations.ReadGivesLatestWrite := by
  intro s r g b j hc hwf h0 hlt
  have hl := ((Memory.wf_iff s).1 hwf).1 hc
  have hj : inRange j s = true := inRange_iff.2 ⟨h0, hlt⟩
  constructor
  · intro i
    obtain ⟨u, hu⟩ := storePixel_ok hl i ⟨r, g, b⟩
    obtain ⟨q, hq⟩ := loadPixel_ok hl j
    have hcu : u.cfg = .ready := by rw [eq_setPb_of_storePixel hu]; exact hc
    have hread : loadPixel j (respond .ok 0 u) = .ok (if i = j then ⟨r, g, b⟩ else q) :=
      (loadPixel_congr (s := u) rfl rfl).trans (loadPixel_of_storePixel hj hu hq)
    refine ⟨_, _, _, exec_setPixel_stores hc hu, exec_getPixel_loads hcu hread, exec_getPixel_loads hc hq, ?_⟩
    split <;> rfl
  · have hread : loadPixel j (respond .ok 0 (fillPixels ⟨r, g, b⟩ s)) = .ok ⟨r, g, b⟩ := loadPixel_fillPixels hj hl
    exact ⟨_, _, exec_setAll_ready hc, exec_getPixel_loads hc hread, rfl⟩

/-- Settles O19: both accesses answer without touching PB, and the zero pixel's datum is 0. -/
theorem outOfRangeIsNoFault : Obligations.OutOfRangeIsNoFault := by
  intro s i r g b hc hout
  have hr : inRange i s = false := by
    rw [← Bool.not_eq_true, inRange_iff]
    omega
  exact ⟨exec_setPixel_stores hc (storePixel_outside hr), exec_getPixel_loads hc (loadPixel_outside hr)⟩

/-! ## The four operations that do not transmit -/

/-- SET_PIXEL, SET_ALL, GET_PIXEL and GET_LENGTH. -/
abbrev IsBufferOp (i : Instr) : Prop :=
  i.opcode = .setPixel ∨ i.opcode = .setAll ∨ i.opcode = .getPixel ∨ i.opcode = .getLength

theorem opcode_ne_init_of_bufferOp {i : Instr} (hi : IsBufferOp i) : i.opcode ≠ .init := by
  intro h
  simp [IsBufferOp, h] at hi

/-- Everything one of the four can do when it answers a next state: the refusal outside READY, or its own rule. -/
theorem exec_bufferOp_cases {i : Instr} {s t : State} (hi : IsBufferOp i) (h : exec i s = .next t) :
    (s.cfg ≠ .ready ∧ t = raise .badState s) ∨
    (∃ x r g b u, i = .setPixel x r g b ∧ s.cfg = .ready ∧ storePixel x ⟨r, g, b⟩ s = .ok u ∧ t = respond .ok 0 u) ∨
    (∃ r g b, i = .setAll r g b ∧ s.cfg = .ready ∧ t = respond .ok 0 (fillPixels ⟨r, g, b⟩ s)) ∨
    (∃ x p, i = .getPixel x ∧ s.cfg = .ready ∧ loadPixel x s = .ok p ∧ t = respond .ok p.datum s) ∨
    (i = .getLength ∧ s.cfg = .ready ∧ t = respond .ok s.len s) := by
  have hinit := opcode_ne_init_of_bufferOp hi
  rcases exec_cases h with ⟨-, hc, ht⟩ | ⟨pin, n, rfl, -⟩ | ⟨pin, n, rfl, -⟩ | hset | hall | ⟨rfl, -⟩ | ⟨rfl, -⟩ |
    hget | hlen
  · exact .inl ⟨hc hinit, ht⟩
  · exact absurd rfl hinit
  · exact absurd rfl hinit
  · exact .inr (.inl hset)
  · exact .inr (.inr (.inl hall))
  · exact absurd hi (by decide)
  · exact absurd hi (by decide)
  · exact .inr (.inr (.inr (.inl hget)))
  · exact .inr (.inr (.inr (.inr hlen)))

/-- Settles O23, operation by operation. -/
theorem bufferOperationsFrame : Obligations.BufferOperationsFrame := by
  intro s t i hi h
  rcases exec_bufferOp_cases hi h with ⟨-, rfl⟩ | ⟨x, r, g, b, u, rfl, -, hu, rfl⟩ | ⟨r, g, b, rfl, -, rfl⟩ |
    ⟨x, p, rfl, -, -, rfl⟩ | ⟨rfl, -, rfl⟩
  · exact ⟨rfl, fun _ => rfl, fun _ _ _ _ _ _ _ => rfl⟩
  · refine ⟨by rw [eq_setPb_of_storePixel hu]; rfl, nofun, fun y r' g' b' heq j hj => ?_⟩
    cases heq
    rw [respond_pb]
    exact storePixel_otherEntry hu hj
  · exact ⟨rfl, nofun, nofun⟩
  · exact ⟨rfl, fun _ => rfl, nofun⟩
  · exact ⟨rfl, fun _ => rfl, nofun⟩

/-- One of the four, run again right after itself, answers the same again and changes nothing else. -/
theorem exec_bufferOp_again {i : Instr} {s t : State} (hi : IsBufferOp i) (h : exec i s = .next t) :
    exec i t = .next { t with rspLog := t.rspLog ++ [t.rsp] } := by
  rcases exec_bufferOp_cases hi h with ⟨hc, rfl⟩ | ⟨x, r, g, b, u, rfl, hc, hu, rfl⟩ | ⟨r, g, b, rfl, hc, rfl⟩ |
    ⟨x, p, rfl, hc, hp, rfl⟩ | ⟨rfl, hc, rfl⟩
  · exact exec_refused (s := raise .badState s) (absurd · (opcode_ne_init_of_bufferOp hi)) (fun _ => hc)
  · have hcu : u.cfg = .ready := by rw [eq_setPb_of_storePixel hu]; exact hc
    exact exec_setPixel_stores (s := respond .ok 0 u) hcu (storePixel_ok_congr (s := u) rfl rfl (storePixel_again hu))
  · rw [exec_setAll_ready (s := respond .ok 0 (fillPixels ⟨r, g, b⟩ s)) hc, fillPixels_again]
    rfl
  · exact exec_getPixel_loads (s := respond .ok p.datum s) hc hp
  · exact exec_getLength_ready (s := respond .ok s.len s) hc

/-- Settles O24, from the whole next state of the second run. -/
theorem repeatedAccessIsIdempotent : Obligations.RepeatedAccessIsIdempotent := by
  intro s t u i hi hs ht
  rw [exec_bufferOp_again hi hs] at ht
  cases ht
  exact ⟨rfl, rfl⟩

/-! ## The line and the buffer stay apart -/

@[simp] theorem applyMove_cmdIn (m : EncMove) (s : State) : (applyMove m s).cmdIn = s.cmdIn := by rw [applyMove_frame]
@[simp] theorem applyMove_pin (m : EncMove) (s : State) : (applyMove m s).pin = s.pin := by rw [applyMove_frame]
@[simp] theorem applyMove_keeps_frame (m : EncMove) (s : State) : (applyMove m s).frame = s.frame := by
  rw [applyMove_frame]

/-- The state with another buffer and other words waiting at the command port. -/
def withBufferAndPort (pb : List Pixel) (cmds : List Command) (s : State) : State := { s with pb := pb, cmdIn := cmds }

/-- Which move is enabled depends on neither. -/
@[simp] theorem encMove_withBufferAndPort (pb : List Pixel) (cmds : List Command) (s : State) :
    encMove (withBufferAndPort pb cmds s) = encMove s := rfl

/-- A move reads and writes neither: what it sends and shows comes from FRAME (20_memory.md R63). -/
theorem applyMove_withBufferAndPort (m : EncMove) (pb : List Pixel) (cmds : List Command) (s : State) :
    applyMove m (withBufferAndPort pb cmds s) = withBufferAndPort pb cmds (applyMove m s) := by
  cases m with
  | bit b => rw [applyMove_bit, applyMove_bit]; rfl
  | _ => rfl

/-- Settles O38: a step in flight is a move of the encoder, which keeps these fields and commutes with changing PB and
the waiting words. -/
theorem frameIsIsolatedFromBuffer : Obligations.FrameIsIsolatedFromBuffer := by
  intro s t hr hb hs
  rw [step_of_busy hr hb] at hs
  obtain ⟨m, hm, rfl⟩ := encStep_next hs
  refine ⟨applyMove_pb m _, applyMove_cmdIn m _, applyMove_cfg m _, applyMove_len m _, applyMove_pin m _,
    applyMove_keeps_frame m _, fun pb cmds => ?_⟩
  calc step (withBufferAndPort pb cmds s)
      = encStep (withBufferAndPort pb cmds (takeRst s)) := step_of_busy (s := withBufferAndPort pb cmds s) hr hb
    _ = .next (applyMove m (withBufferAndPort pb cmds (takeRst s))) :=
        encStep_of_encMove ((encMove_withBufferAndPort pb cmds _).trans hm)
    _ = .next (withBufferAndPort pb cmds (applyMove m (takeRst s))) := by rw [applyMove_withBufferAndPort]

/-- An operation that leaves CFG leaves the level of the line and what the strip shows: only the INIT that makes the
block READY sets them (40_config_ops.md R100). -/
theorem level_and_shown_of_execShape {i : Instr} {s t : State} (he : ExecShape i s t) (hcfg : t.cfg = s.cfg) :
    t.dout = s.dout ∧ t.shown = s.shown := by
  cases he with
  | configured pin n _ hc => cases hcfg.trans hc
  | initFailed => exact ⟨rfl, rfl⟩
  | answered => exact ⟨rfl, rfl⟩
  | frameStarted => exact ⟨rfl, rfl⟩

/-- Settles O50: TRACE and NFRAMES from `line_of_idle_step`, DOUT and SHOWN kind of step by kind of step. -/
theorem onlyFramesReachTheLine : Obligations.OnlyFramesReachTheLine := by
  intro s t hr hb hs
  obtain ⟨htrace, hframes⟩ := line_of_idle_step hr hb hs
  refine ⟨htrace, hframes, fun hcfg => ?_⟩
  cases step_shape hs with
  | reset hrst => simp [hr] at hrst
  | encoder m _ hbusy => simp [hb] at hbusy
  | idle => exact ⟨rfl, rfl⟩
  | operation w ws i _ _ _ _ he => exact level_and_shown_of_execShape (s := atPort s) he hcfg
  | illegal => exact ⟨rfl, rfl⟩

end Sys2Proof.Machine

/-! SUPPORT. The command encoding (30_encoding.md sections 1 to 3): the verdict of a word read off its fields, the rows of
the opcode map as mask and match, the operands as numbers, and the reserved fields. -/

namespace Sys2Proof

/-! ## The decoder, verdict by verdict -/

theorem decode_of_unassigned {w : Command} (h : Opcode.ofCode (opcField w) = none) :
    decode w = .illegal .unassignedOpcode := by
  rw [decode, h]

theorem decode_of_reservedZero {w : Command} {o : Opcode} (hc : opcField w = o.code)
    (hr : o.format.reservedZero w = true) : decode w = .op (o.operands w) := by
  rw [decode, hc, ofCode_code]
  exact if_pos hr

theorem decode_of_reservedNotZero {w : Command} {o : Opcode} (hc : opcField w = o.code)
    (hr : o.format.reservedZero w ≠ true) : decode w = .illegal .reservedFieldNotZero := by
  rw [decode, hc, ofCode_code]
  exact if_neg hr

/-- Every word has one of the three kinds of verdict (R74, R75). -/
theorem decode_cases (w : Command) :
    (Opcode.ofCode (opcField w) = none ∧ decode w = .illegal .unassignedOpcode) ∨
    (∃ o : Opcode, opcField w = o.code ∧ o.format.reservedZero w ≠ true ∧ decode w = .illegal .reservedFieldNotZero) ∨
    (∃ o : Opcode, opcField w = o.code ∧ o.format.reservedZero w = true ∧ decode w = .op (o.operands w)) := by
  cases ho : Opcode.ofCode (opcField w) with
  | none => exact .inl ⟨rfl, decode_of_unassigned ho⟩
  | some o =>
    have hc := ofCode_eq_some.1 ho
    by_cases hr : o.format.reservedZero w = true
    · exact .inr (.inr ⟨o, hc, hr, decode_of_reservedZero hc hr⟩)
    · exact .inr (.inl ⟨o, hc, hr, decode_of_reservedNotZero hc hr⟩)

@[simp] theorem opcode_operands (o : Opcode) (w : Command) : (o.operands w).opcode = o := by
  cases o <;> rfl

/-- A word decodes to an operation exactly when its fields are those of the operation's row and spell its operands. -/
theorem decode_eq_op_iff {w : Command} {i : Instr} :
    decode w = .op i ↔
      opcField w = i.opcode.code ∧ i.opcode.format.reservedZero w = true ∧ i.opcode.operands w = i := by
  constructor
  · intro h
    rcases decode_cases w with ⟨-, hd⟩ | ⟨o, -, -, hd⟩ | ⟨o, hc, hr, hd⟩
    · cases hd.symm.trans h
    · cases hd.symm.trans h
    · cases hd.symm.trans h
      rw [opcode_operands]
      exact ⟨hc, hr, rfl⟩
  · rintro ⟨hc, hr, ho⟩
    rw [decode_of_reservedZero hc hr, ho]

theorem operands_of_decode {w : Command} {i : Instr} (h : decode w = .op i) : i = i.opcode.operands w :=
  (decode_eq_op_iff.1 h).2.2.symm

/-- A word is illegal exactly when no row has its opcode, or the row's reserved fields are not zero (R74). -/
theorem decode_illegal_iff {w : Command} :
    (∃ why, decode w = .illegal why) ↔
      Opcode.ofCode (opcField w) = none ∨ ∃ o : Opcode, opcField w = o.code ∧ o.format.reservedZero w ≠ true := by
  constructor
  · rintro ⟨why, h⟩
    rcases decode_cases w with ⟨ho, -⟩ | ⟨o, hc, hr, -⟩ | ⟨o, -, -, hd⟩
    · exact .inl ho
    · exact .inr ⟨o, hc, hr⟩
    · cases hd.symm.trans h
  · rintro (ho | ⟨o, hc, hr⟩)
    · exact ⟨_, decode_of_unassigned ho⟩
    · exact ⟨_, decode_of_reservedNotZero hc hr⟩

/-! ## Encoding and decoding -/

theorem opcField_encode (i : Instr) : opcField (encode i) = i.opcode.code := by
  cases i <;> exact opcField_commandWord _ _ _ _ _

theorem reservedZero_encode (i : Instr) : i.opcode.format.reservedZero (encode i) = true := by
  cases i <;> simp [Instr.opcode, Opcode.format, Format.reservedZero, encode]

/-- The operand fields of an operation's word spell its operands, an index only when it fits (R73). -/
theorem operands_encode {i : Instr} (h : i.wellFormed = true) : i.opcode.operands (encode i) = i := by
  cases i with
  | setPixel x r g b =>
    simp only [Instr.opcode, Opcode.operands, encode, indexOperand, aField_commandWord, c2Field_commandWord,
      c1Field_commandWord, c0Field_commandWord, toInt_ofInt_of_fits h]
  | getPixel x =>
    simp only [Instr.opcode, Opcode.operands, encode, indexOperand, aField_commandWord, toInt_ofInt_of_fits h]
  | _ => simp [Instr.opcode, Opcode.operands, encode]

/-- Settles O2: the word of an operation has the opcode, the zero fields and the operand fields of its row. -/
theorem decodeOfEncode : Obligations.DecodeOfEncode :=
  fun i h => decode_eq_op_iff.2 ⟨opcField_encode i, reservedZero_encode i, operands_encode h⟩

theorem wellFormed_operands (o : Opcode) (w : Command) : (o.operands w).wellFormed = true := by
  cases o with
  | setPixel => exact indexFits_toInt (aField w)
  | getPixel => exact indexFits_toInt (aField w)
  | _ => rfl

/-- A word of a row is rebuilt from the operands the row reads: the other fields are the opcode and zeros. -/
theorem encode_operands {o : Opcode} {w : Command} (hc : opcField w = o.code)
    (hr : o.format.reservedZero w = true) : encode (o.operands w) = w := by
  conv_rhs => rw [← commandWord_fields w, hc]
  cases o <;> simp_all [Opcode.operands, Opcode.format, Format.reservedZero, encode, Opcode.code, indexOperand]

/-- Settles O3: the operation's fields and operands are the word's. -/
theorem encodeOfDecode : Obligations.EncodeOfDecode := by
  intro w i h
  obtain ⟨hc, hr, ho⟩ := decode_eq_op_iff.1 h
  rw [← ho]
  exact ⟨wellFormed_operands _ w, encode_operands hc hr⟩

/-! ## The rows as mask and match -/

theorem byte_and_allOnes (x : BitVec 8) : x &&& 255#8 = x := BitVec.and_allOnes

theorem word32_and_allOnes (x : Word32) : x &&& 4294967295#32 = x := BitVec.and_allOnes

/-- Two words are equal when their five fields are. -/
theorem command_eq_iff {v w : Command} :
    v = w ↔ opcField v = opcField w ∧ aField v = aField w ∧ c2Field v = c2Field w ∧ c1Field v = c1Field w ∧
      c0Field v = c0Field w := by
  refine ⟨fun h => by simp [h], fun ⟨ho, ha, h2, h1, h0⟩ => ?_⟩
  rw [← commandWord_fields v, ho, ha, h2, h1, h0, commandWord_fields]

/-- Masking a word masks each field. -/
theorem and_eq_iff_fields {w m v : Command} :
    w &&& m = v ↔
      opcField w &&& opcField m = opcField v ∧ aField w &&& aField m = aField v ∧
      c2Field w &&& c2Field m = c2Field v ∧ c1Field w &&& c1Field m = c1Field v ∧
      c0Field w &&& c0Field m = c0Field v := by
  simp only [command_eq_iff, opcField, aField, c2Field, c1Field, c0Field, BitVec.extractLsb'_and]

/-- The word with ones in `OPC` and in the fields a format requires to be zero (R71). -/
def Format.mask : Format → Command
  | .I => commandWord 0xFF 0 0xFF 0xFF 0
  | .P => commandWord 0xFF 0 0 0 0
  | .C => commandWord 0xFF 0xFFFFFFFF 0 0 0
  | .X => commandWord 0xFF 0 0xFF 0xFF 0xFF
  | .Z => commandWord 0xFF 0xFFFFFFFF 0xFF 0xFF 0xFF

theorem maskBits_eq_format_mask (o : Opcode) : o.maskBits = o.format.mask := by
  cases o <;> decide

theorem matchBits_eq_commandWord (o : Opcode) : o.matchBits = commandWord o.code 0 0 0 0 := by
  cases o <;> decide

/-- R72's `w AND mask = match` is the row's opcode with its format's reserved fields zero. -/
theorem and_maskBits_iff (o : Opcode) (w : Command) :
    w &&& o.maskBits = o.matchBits ↔ opcField w = o.code ∧ o.format.reservedZero w = true := by
  rw [maskBits_eq_format_mask, matchBits_eq_commandWord, and_eq_iff_fields]
  cases o.format <;> simp [Format.mask, Format.reservedZero, byte_and_allOnes, word32_and_allOnes, and_assoc]

theorem and_maskBits_of_decode {w : Command} {i : Instr} (h : decode w = .op i) :
    w &&& i.opcode.maskBits = i.opcode.matchBits := by
  obtain ⟨hc, hr, -⟩ := decode_eq_op_iff.1 h
  exact (and_maskBits_iff _ w).2 ⟨hc, hr⟩

theorem decode_of_and_maskBits (o : Opcode) {w : Command} (h : w &&& o.maskBits = o.matchBits) :
    decode w = .op (o.operands w) := by
  obtain ⟨hc, hr⟩ := (and_maskBits_iff o w).1 h
  exact decode_of_reservedZero hc hr

/-- Settles O4, row by row. -/
theorem decodeSelectsTableRow : Obligations.DecodeSelectsTableRow := fun _ =>
  ⟨⟨fun ⟨_, _, h⟩ => and_maskBits_of_decode h, fun h => ⟨_, _, decode_of_and_maskBits .init h⟩⟩,
    ⟨fun ⟨_, _, _, _, h⟩ => and_maskBits_of_decode h, fun h => ⟨_, _, _, _, decode_of_and_maskBits .setPixel h⟩⟩,
    ⟨fun ⟨_, _, _, h⟩ => and_maskBits_of_decode h, fun h => ⟨_, _, _, decode_of_and_maskBits .setAll h⟩⟩,
    ⟨and_maskBits_of_decode, decode_of_and_maskBits .clear⟩,
    ⟨and_maskBits_of_decode, decode_of_and_maskBits .present⟩,
    ⟨fun ⟨_, h⟩ => and_maskBits_of_decode h, fun h => ⟨_, decode_of_and_maskBits .getPixel h⟩⟩,
    ⟨and_maskBits_of_decode, decode_of_and_maskBits .getLength⟩⟩

/-! ## The operands as numbers -/

theorem toNat_aField (w : Command) : (aField w).toNat = w.toNat / 2 ^ 24 % 2 ^ 32 := by
  rw [aField, BitVec.extractLsb'_toNat, Nat.shiftRight_eq_div_pow]

theorem toNat_c2Field (w : Command) : (c2Field w).toNat = w.toNat / 2 ^ 16 % 2 ^ 8 := by
  rw [c2Field, BitVec.extractLsb'_toNat, Nat.shiftRight_eq_div_pow]

theorem toNat_c1Field (w : Command) : (c1Field w).toNat = w.toNat / 2 ^ 8 % 2 ^ 8 := by
  rw [c1Field, BitVec.extractLsb'_toNat, Nat.shiftRight_eq_div_pow]

theorem toNat_c0Field (w : Command) : (c0Field w).toNat = w.toNat % 2 ^ 8 := by
  rw [c0Field, BitVec.extractLsb'_toNat, Nat.shiftRight_zero]

/-- The index is the number in its field, less `2^32` from `2^31` on: two's complement (R73). -/
theorem indexOperand_cases (w : Command) :
    (indexOperand w = ((w.toNat / 2 ^ 24 % 2 ^ 32 : Nat) : Int) ∧ indexOperand w < 2 ^ 31) ∨
    (indexOperand w = ((w.toNat / 2 ^ 24 % 2 ^ 32 : Nat) : Int) - 2 ^ 32 ∧
      2 ^ 31 ≤ w.toNat / 2 ^ 24 % 2 ^ 32) := by
  have hi := BitVec.toInt_eq_toNat_cond (aField w)
  rw [toNat_aField] at hi
  rw [indexOperand, hi]
  split
  · exact .inl ⟨rfl, by omega⟩
  · exact .inr ⟨rfl, by omega⟩

/-- Settles O6: each operand is its row's field. -/
theorem operandsOfWord : Obligations.OperandsOfWord := by
  intro w
  refine ⟨fun pin n h => ?_, fun x r g b h => ?_, fun r g b h => ?_, fun x h => ?_⟩
  · cases operands_of_decode h
    exact ⟨toNat_aField w, toNat_c0Field w⟩
  · cases operands_of_decode h
    exact ⟨indexOperand_cases w, toNat_c2Field w, toNat_c1Field w, toNat_c0Field w⟩
  · cases operands_of_decode h
    exact ⟨toNat_c2Field w, toNat_c1Field w, toNat_c0Field w⟩
  · cases operands_of_decode h
    exact indexOperand_cases w

/-! ## Reserved fields and illegal words -/

theorem append_eq_zero_iff {m n : Nat} {x : BitVec m} {y : BitVec n} : x ++ y = 0#(m + n) ↔ x = 0#m ∧ y = 0#n := by
  constructor
  · intro h
    have hx := congrArg (BitVec.extractLsb' n m) h
    have hy := congrArg (BitVec.extractLsb' 0 n) h
    rw [BitVec.extractLsb'_append_eq_left, BitVec.extractLsb'_zero] at hx
    rw [BitVec.extractLsb'_append_eq_right, BitVec.extractLsb'_zero] at hy
    exact ⟨hx, hy⟩
  · rintro ⟨rfl, rfl⟩
    exact BitVec.zero_append_zero

/-- A span of bits is zero when its two parts are. -/
theorem extractLsb'_eq_zero_iff {N : Nat} (w : BitVec N) (start m n : Nat) :
    w.extractLsb' start (m + n) = 0#(m + n) ↔ w.extractLsb' (start + n) m = 0#m ∧ w.extractLsb' start n = 0#n := by
  rw [← append_eq_zero_iff, BitVec.extractLsb'_append_extractLsb'_eq_extractLsb' rfl]

/-- The reserved fields of each format as one span of bits (R71). -/
theorem reservedZero_I {w : Command} : Format.I.reservedZero w = true ↔ w.extractLsb' 8 16 = 0 := by
  have h := extractLsb'_eq_zero_iff w 8 8 8
  simpa [Format.reservedZero, c2Field, c1Field] using h.symm

theorem reservedZero_C {w : Command} : Format.C.reservedZero w = true ↔ w.extractLsb' 24 32 = 0 := by
  simp [Format.reservedZero, aField]

theorem reservedZero_X {w : Command} : Format.X.reservedZero w = true ↔ w.extractLsb' 0 24 = 0 := by
  have h := extractLsb'_eq_zero_iff w 0 16 8
  rw [extractLsb'_eq_zero_iff w (0 + 8) 8 8] at h
  simpa [Format.reservedZero, c2Field, c1Field, c0Field] using h.symm

theorem reservedZero_Z {w : Command} : Format.Z.reservedZero w = true ↔ w.extractLsb' 0 56 = 0 := by
  have h := extractLsb'_eq_zero_iff w 0 32 24
  rw [show w.extractLsb' 0 24 = 0#24 ↔ _ from reservedZero_X.symm] at h
  simpa [Format.reservedZero, aField, and_assoc] using h.symm

/-- A row's reserved fields are not zero, row by row: SET_PIXEL has none. -/
theorem exists_row_reservedNotZero_iff {w : Command} :
    (∃ o : Opcode, opcField w = o.code ∧ o.format.reservedZero w ≠ true) ↔
      (opcField w = 1 ∧ w.extractLsb' 8 16 ≠ 0) ∨ (opcField w = 3 ∧ w.extractLsb' 24 32 ≠ 0) ∨
      (opcField w = 6 ∧ w.extractLsb' 0 24 ≠ 0) ∨
      ((opcField w = 4 ∨ opcField w = 5 ∨ opcField w = 7) ∧ w.extractLsb' 0 56 ≠ 0) := by
  constructor
  · rintro ⟨o, hc, hr⟩
    cases o with
    | init => exact .inl ⟨hc, mt reservedZero_I.2 hr⟩
    | setPixel => exact absurd rfl hr
    | setAll => exact .inr (.inl ⟨hc, mt reservedZero_C.2 hr⟩)
    | clear => exact .inr (.inr (.inr ⟨.inl hc, mt reservedZero_Z.2 hr⟩))
    | present => exact .inr (.inr (.inr ⟨.inr (.inl hc), mt reservedZero_Z.2 hr⟩))
    | getPixel => exact .inr (.inr (.inl ⟨hc, mt reservedZero_X.2 hr⟩))
    | getLength => exact .inr (.inr (.inr ⟨.inr (.inr hc), mt reservedZero_Z.2 hr⟩))
  · rintro (⟨hc, hr⟩ | ⟨hc, hr⟩ | ⟨hc, hr⟩ | ⟨hc | hc | hc, hr⟩)
    · exact ⟨.init, hc, mt reservedZero_I.1 hr⟩
    · exact ⟨.setAll, hc, mt reservedZero_C.1 hr⟩
    · exact ⟨.getPixel, hc, mt reservedZero_X.1 hr⟩
    · exact ⟨.clear, hc, mt reservedZero_Z.1 hr⟩
    · exact ⟨.present, hc, mt reservedZero_Z.1 hr⟩
    · exact ⟨.getLength, hc, mt reservedZero_Z.1 hr⟩

/-! ## Words written out -/

/-- Settles O1, word by word. -/
theorem spelledWordsDecode : Obligations.SpelledWordsDecode := by
  unfold Obligations.SpelledWordsDecode
  decide

end Sys2Proof

/-! SUPPORT. What the front end answers to an illegal word, the form of every response, and the ranges of the assembler's
operands (30_encoding.md sections 3 to 5). -/

namespace Sys2Proof.Machine

/-! ## Illegal words -/

theorem atPort_of_offers {s : State} {w : Command} {ws : List Command} (h : offers s w ws) :
    atPort s = { s with cmdIn := ws, rstIn := s.rstIn.tail } := by
  obtain ⟨-, -, hq⟩ := h
  simp [takeCommand, takeRst, hq]

theorem step_of_illegal {s : State} {w : Command} {ws : List Command} {why : IllegalCommand} (h : offers s w ws)
    (hd : decode w = .illegal why) :
    step s = .next (answered 0x04 0 { s with cmdIn := ws, rstIn := s.rstIn.tail }) := by
  have ⟨hr, hb, hq⟩ := h
  rw [step_of_word hr hb hq, frontEnd_of_illegal hd, atPort_of_offers h]
  rfl

/-- Settles O5: no row has the opcode, or the row's reserved span is not zero; the front end answers such a word
itself. -/
theorem illegalWordsAnswered : Obligations.IllegalWordsAnswered := by
  refine ⟨fun w => ?_, ⟨_, decode_of_unassigned (ofCode_eq_none.2 (.inl rfl))⟩, fun _ _ _ _ => step_of_illegal⟩
  rw [decode_illegal_iff, ofCode_eq_none, exists_row_reservedNotZero_iff, or_assoc]
  rfl

/-! ## The form of a response -/

theorem status_code_le (st : Status) : st.code.toNat ≤ 4 := by
  cases st <;> decide

/-- An operation answers nothing new, or a status with DATA 0, or OK with the datum of one of the two reads. -/
theorem answer_of_exec {i : Instr} {s t : State} (h : exec i s = .next t) :
    t.rspLog = s.rspLog ∨ (∃ st : Status, t.rsp = ⟨st.code, 0⟩) ∨
    ((i.opcode = .getPixel ∨ i.opcode = .getLength) ∧ ∃ d, t.rsp = ⟨Status.ok.code, d⟩) := by
  rcases exec_cases h with ⟨-, -, rfl⟩ | ⟨_, _, rfl, -, -, -, rfl⟩ | ⟨_, _, rfl, -, -, rfl⟩ |
    ⟨_, _, _, _, _, rfl, -, -, rfl⟩ | ⟨_, _, _, rfl, -, rfl⟩ | ⟨rfl, -, rfl⟩ | ⟨rfl, -, rfl⟩ |
    ⟨_, p, rfl, -, -, rfl⟩ | ⟨rfl, -, rfl⟩
  · exact .inr (.inl ⟨.badState, rfl⟩)
  · exact .inr (.inl ⟨.ok, rfl⟩)
  · exact .inr (.inl ⟨.initFault, rfl⟩)
  · exact .inr (.inl ⟨.ok, rfl⟩)
  · exact .inr (.inl ⟨.ok, rfl⟩)
  · exact .inl rfl
  · exact .inl rfl
  · exact .inr (.inr ⟨.inl rfl, _, rfl⟩)
  · exact .inr (.inr ⟨.inr rfl, _, rfl⟩)

/-- The same of a move of the encoder: only the latch answers, a status with DATA 0. -/
theorem answer_of_applyMove (m : EncMove) (s : State) :
    (applyMove m s).rspLog = s.rspLog ∨ ∃ st : Status, (applyMove m s).rsp = ⟨st.code, 0⟩ := by
  cases m with
  | bit b => rw [applyMove_bit]; exact .inl rfl
  | toLatch => exact .inl rfl
  | fail => exact .inl rfl
  | latch => exact .inr ⟨frameStatus s, rfl⟩

/-- The same of a whole step. -/
theorem answer_of_step {s t : State} (hr : rstAsserted s = false) (hs : step s = .next t) :
    t.rspLog = s.rspLog ∨ (∃ st : Status, t.rsp = ⟨st.code, 0⟩) ∨
    (s.busy = false ∧ (∃ w ws i, s.cmdIn = w :: ws ∧ decode w = .op i ∧
      (i.opcode = .getPixel ∨ i.opcode = .getLength)) ∧ ∃ d, t.rsp = ⟨Status.ok.code, d⟩) := by
  rcases step_cases hs with ⟨hrst, -⟩ | ⟨-, -, m, -, rfl⟩ | ⟨-, -, -, rfl⟩ | ⟨-, hb, w, ws, i, hq, hd, he⟩ |
    ⟨-, -, _, _, _, -, -, rfl⟩
  · simp [hr] at hrst
  · exact (answer_of_applyMove m (takeRst s)).imp id .inl
  · exact .inl rfl
  · exact (answer_of_exec he).imp id (Or.imp id fun ⟨hi, hd'⟩ => ⟨hb, ⟨w, ws, i, hq, hd, hi⟩, hd'⟩)
  · exact .inr (.inl ⟨.illegalCmd, rfl⟩)

/-- Settles O14, from what a step can answer. -/
theorem responseForm : Obligations.ResponseForm := by
  intro s t hr hs hnew
  rcases (answer_of_step hr hs).resolve_left hnew with ⟨st, hrsp⟩ | ⟨hb, ⟨w, ws, i, hread⟩, d, hrsp⟩
  · rw [hrsp]
    exact ⟨status_code_le st, fun _ => rfl, fun hd => absurd rfl hd⟩
  · rw [hrsp]
    exact ⟨status_code_le .ok, fun h => absurd rfl h, fun _ => ⟨hb, w, ws, i, hread⟩⟩

/-! ## The assembler's operand ranges -/

theorem toNat_ofInt_eq_emod (n : Nat) (v : Int) : ((BitVec.ofInt n v).toNat : Int) = v % 2 ^ n := by
  rw [BitVec.toNat_ofInt, Int.toNat_of_nonneg (Int.emod_nonneg v (by positivity))]
  norm_num

theorem toNat_channelField (v : Int) : ((channelField v).toNat : Int) = v % 256 := toNat_ofInt_eq_emod 8 v

theorem toNat_ofInt_of_inRange {n : Nat} {v : Int} (h0 : 0 ≤ v) (h : v < 2 ^ n) :
    ((BitVec.ofInt n v).toNat : Int) = v := by
  rw [toNat_ofInt_eq_emod, Int.emod_eq_of_lt h0 h]

theorem indexFits_iff {i : Int} : indexFits i = true ↔ -(2 ^ 31) ≤ i ∧ i ≤ 2 ^ 31 - 1 := by
  simp [indexFits]

/-- A mnemonic assembles as every other of its operation: a pseudo-operation is a second name (R80). -/
theorem assemble_congr {m m' : Mnemonic} (h : m.opcode = m'.opcode) (args : List Int) :
    assemble m args = assemble m' args := by
  unfold assemble assembleOp
  rw [h]

theorem assemble_setAll (r g b : Int) :
    assemble .setAll [r, g, b] = some (encode (.setAll (channelField r) (channelField g) (channelField b))) := rfl

theorem assemble_setPixel (i r g b : Int) :
    assemble .setPixel [i, r, g, b] =
      if indexFits i then some (encode (.setPixel i (channelField r) (channelField g) (channelField b))) else none := by
  simp only [assemble, assembleOp, Mnemonic.opcode]
  split <;> rfl

theorem assemble_getPixel (i : Int) :
    assemble .getPixel [i] = if indexFits i then some (encode (.getPixel i)) else none := by
  simp only [assemble, assembleOp, Mnemonic.opcode]
  split <;> rfl

theorem assemble_init (p n : Int) :
    assemble .init [p, n] =
      if 0 ≤ p ∧ p ≤ 255 ∧ 0 ≤ n ∧ n ≤ 2 ^ 32 - 1 then some (encode (.init (BitVec.ofInt 8 p) (BitVec.ofInt 32 n)))
      else none := by
  simp only [assemble, assembleOp, Mnemonic.opcode]
  split <;> rfl

/-- Settles O7, mnemonic by mnemonic; `fill`, `configure` and `flush` through `assemble_congr`. -/
theorem assemblerOperandRanges : Obligations.AssemblerOperandRanges := by
  refine ⟨fun m hm r g b => ?_, fun i r g b hi => ?_, fun i r g b hi => ?_, fun i hi => ?_, fun m hm p n => ?_,
    assemble_congr rfl⟩
  · have hop : m.opcode = Mnemonic.setAll.opcode := by rcases hm with rfl | rfl <;> rfl
    exact ⟨_, _, _, (assemble_congr hop _).trans (assemble_setAll r g b), toNat_channelField r, toNat_channelField g,
      toNat_channelField b⟩
  · exact ⟨_, _, _, (assemble_setPixel i r g b).trans (if_pos (indexFits_iff.2 hi)), toNat_channelField r,
      toNat_channelField g, toNat_channelField b⟩
  · have hout := mt indexFits_iff.1 hi
    exact ⟨(assemble_setPixel i r g b).trans (if_neg hout), (assemble_getPixel i).trans (if_neg hout)⟩
  · exact (assemble_getPixel i).trans (if_pos (indexFits_iff.2 hi))
  · have hop : m.opcode = Mnemonic.init.opcode := by rcases hm with rfl | rfl <;> rfl
    rw [assemble_congr hop, assemble_init]
    exact ⟨fun ⟨hp0, hp⟩ ⟨hn0, hn⟩ => ⟨_, _, if_pos ⟨hp0, hp, hn0, hn⟩, toNat_ofInt_of_inRange hp0 (by omega),
      toNat_ofInt_of_inRange hn0 (by omega)⟩, fun hout => if_neg fun ⟨hp0, hp, hn0, hn⟩ => hout ⟨⟨hp0, hp⟩, hn0, hn⟩⟩

end Sys2Proof.Machine

/-! SUPPORT. The pulse train of a frame: how long it is, that it can be read back, and that the reference receiver reads
it (30_encoding.md section 6). -/

namespace Sys2Proof.Machine

/-! ## The bits of a frame on the wire -/

@[simp] theorem duration_append (a b : List Segment) : duration (a ++ b) = duration a + duration b := by
  simp [duration]

/-- The segments of a bit sequence last one pulse pair for each bit (70_reset_and_hazards.md R178). -/
theorem duration_flatMap_sym (hw : Config) (bs : List Bool) :
    duration (bs.flatMap (sym hw)) =
      bs.count true * (hw.t1h + hw.t1l) + bs.count false * (hw.t0h + hw.t0l) := by
  induction bs with
  | nil => simp [duration]
  | cons b bs ih =>
    rw [List.flatMap_cons, duration_append, ih]
    cases b <;> simp [sym, high, low, duration] <;> ring

/-- Settles O41, from the length and the bits of the frame. -/
theorem trainLengthAndDuration : Obligations.TrainLengthAndDuration := by
  intro hw pb
  refine ⟨?_, ?_, ?_⟩
  · rw [train_eq, List.length_append, flatMap_sym_length, bitsOf_length, frameBytes_length]
    simp only [latchSym, List.length_singleton]
    omega
  · rw [List.count_true_add_count_false, bitsOf_length, frameBytes_length]
    omega
  · rw [train_eq, duration_append, duration_flatMap_sym]
    rfl

/-- Blocks of one positive length, each spelling its own element, can be told apart in their concatenation. -/
theorem flatMap_injective {α β : Type} {f : α → List β} {n : Nat} (hn : 0 < n) (hlen : ∀ a, (f a).length = n)
    (hf : f.Injective) : Function.Injective (List.flatMap f) := by
  have hne (a : α) : f a ≠ [] := List.ne_nil_of_length_pos (by rw [hlen]; exact hn)
  intro as
  induction as with
  | nil =>
    intro bs h
    cases bs with
    | nil => rfl
    | cons b bs => simp [hne] at h
  | cons a as ih =>
    intro bs h
    cases bs with
    | nil => simp [hne] at h
    | cons b bs =>
      rw [List.flatMap_cons, List.flatMap_cons] at h
      obtain ⟨hab, hrest⟩ := List.append_inj h (by rw [hlen, hlen])
      rw [hf hab, ih hrest]

/-- The two pulse pairs differ: were they one, its high part would be longer and shorter than its low part (R7). -/
theorem sym_injective {hw : Config} (h : hw.wf) : Function.Injective (sym hw) := by
  obtain ⟨-, -, h0, -, h1, -⟩ := h
  intro b c hbc
  cases b <;> cases c <;> simp [sym, high, low] at hbc ⊢ <;> omega

theorem byteBits_injective : Function.Injective byteBits := by
  intro v w h
  simp only [byteBits, List.cons.injEq, and_true] at h
  obtain ⟨h7, h6, h5, h4, h3, h2, h1, h0⟩ := h
  apply BitVec.eq_of_getLsbD_eq
  intro i hi
  interval_cases i <;> assumption

theorem bitsOf_injective : Function.Injective bitsOf :=
  flatMap_injective (n := 8) (by decide) byteBits_length byteBits_injective

/-- A frame can be read off its train (30_encoding.md R86). -/
theorem train_injective {hw : Config} (h : hw.wf) : Function.Injective (train hw) := by
  intro f g hfg
  rw [train_eq, train_eq] at hfg
  exact bitsOf_injective (flatMap_injective (n := 2) (by decide) (sym_length hw) (sym_injective h)
    (List.append_cancel_right hfg))

/-- Settles O40: the train gives the frame, and the frame read back gives the buffer. -/
theorem trainIsLossless : Obligations.TrainIsLossless := by
  intro hw pb pb' h heq
  have hframe := congrArg (framePixels hw.wireOrder) (train_injective h heq)
  rwa [framePixels_frameBytes, framePixels_frameBytes] at hframe

/-! ## The reference receiver -/

theorem within_self (tol a : Nat) : within tol a a = true := by
  simp [within]

theorem inWindow_self (hw : Config) (b : Bool) :
    inWindow hw b (if b then hw.t1h else hw.t0h) (if b then hw.t1l else hw.t0l) = true := by
  cases b <;> simp [inWindow, within_self]

/-- The high part of one bit lies outside the other's window, when the windows are disjoint. -/
theorem inWindow_other {hw : Config} (h : hw.t0h + hw.tol < hw.t1h - hw.tol) (b : Bool) (tl : Nat) :
    inWindow hw (!b) (if b then hw.t1h else hw.t0h) tl = false := by
  cases b <;> simp [inWindow, within] <;> omega

theorem readPair_sym {hw : Config} (h : hw.t0h + hw.tol < hw.t1h - hw.tol) (b : Bool) :
    readPair hw (if b then hw.t1h else hw.t0h) (if b then hw.t1l else hw.t0l) = some b := by
  have hself := inWindow_self hw b
  have hother := inWindow_other h b (if b then hw.t1l else hw.t0l)
  cases b <;> simp_all [readPair]

/-- A pulse pair in front is read as its bit. -/
theorem receive_sym {hw : Config} (h : hw.t0h + hw.tol < hw.t1h - hw.tol) (b : Bool) {bits : List Bool}
    {rest later : List Segment} (hrest : receive hw rest = some (bits, later)) :
    receive hw (sym hw b ++ rest) = some (b :: bits, later) := by
  have hread := readPair_sym h b
  cases b <;> simp_all [sym, high, low, receive]

theorem receive_latchSym (hw : Config) (later : List Segment) :
    receive hw (latchSym hw ++ later) = some ([], later) := by
  simp [latchSym, low, receive]

theorem receive_bits {hw : Config} (h : hw.t0h + hw.tol < hw.t1h - hw.tol) (bs : List Bool) (later : List Segment) :
    receive hw (bs.flatMap (sym hw) ++ (latchSym hw ++ later)) = some (bs, later) := by
  induction bs with
  | nil => exact receive_latchSym hw later
  | cons b bs ih =>
    rw [List.flatMap_cons, List.append_assoc]
    exact receive_sym h b ih

/-- Settles O43, by induction over the frame's bits. -/
theorem receiverReadsFrame : Obligations.ReceiverReadsFrame := by
  intro hw f later _ h
  rw [train_eq, List.append_assoc]
  exact receive_bits h (bitsOf f) later

end Sys2Proof.Machine

/-! SUPPORT. The two operations of 40_config_ops.md that succeed: INIT and GET_LENGTH. -/

namespace Sys2Proof.Machine

theorem lengthAdmitted_iff {n : Word32} {s : State} : lengthAdmitted n s = true ↔ n.toNat ≤ s.hw.maxLen :=
  decide_eq_true_iff

theorem respond_eq_answered (st : Status) (d : Word32) (s : State) : respond st d s = answered st.code d s := rfl

/-- The state of a successful INIT (R100) as one update of the state before its draw. -/
theorem configure_takeInitOk (pin : Byte) (n : Word32) (s : State) :
    configure pin n (takeInitOk s) =
      { s with
        len := n, pin := pin, pb := List.replicate n.toNat ⟨0, 0, 0⟩
        phase := .data, busy := false, cur := 0, txerr := false, dout := .low, cfg := .ready
        shown := List.replicate n.toNat none
        initOkIn := s.initOkIn.tail
        drawn := if s.initOkIn = [] then s.drawn + 1 else s.drawn } := by
  simp [configure, clearTxerr, takeInitOk, Pixel.black]

/-- Settles O15: an admitted length and a true draw take INIT's success branch, whose state `configure_takeInitOk`
spells. -/
theorem initSucceeds : Obligations.InitSucceeds := by
  intro s pin n hc hn ho
  rw [exec_init_succeeds hc (lengthAdmitted_iff.2 hn) ho, respond_eq_answered, configure_takeInitOk]
  rfl

/-- Settles O17: in READY the state check passes, and GET_LENGTH only responds. -/
theorem getLengthAnswersLen : Obligations.GetLengthAnswersLen := by
  intro s hc
  rw [exec_getLength_ready hc, respond_eq_answered]
  rfl

end Sys2Proof.Machine

/-! SUPPORT. The operations of 41_pixel_ops.md in READY: SET_PIXEL and GET_PIXEL in range, and SET_ALL. -/

namespace Sys2Proof.Machine

/-- In READY, PB has its LEN entries where the state has its form (10_state.md R21). -/
theorem pb_length_of_ready {s : State} (hc : s.cfg = .ready) (hwf : Memory.wf s = true) :
    s.pb.length = s.len.toNat :=
  ((Memory.wf_iff s).1 hwf).1 hc

/-- Settles O18: in range the write sets its entry, and SET_PIXEL then only responds. -/
theorem setPixelWritesEntry : Obligations.SetPixelWritesEntry := by
  intro s i r g b hc hwf h0 hlt
  exact exec_setPixel_stores hc (storePixel_inside (inRange_iff.2 ⟨h0, hlt⟩) (pb_length_of_ready hc hwf))

/-- SET_ALL's update keeps the number of entries, so it leaves LEN copies of the pixel. -/
theorem fillPixels_eq_replicate (p : Pixel) {s : State} (hl : s.pb.length = s.len.toNat) :
    fillPixels p s = { s with pb := List.replicate s.len.toNat p } := by
  rw [fillPixels, List.map_const', hl]

/-- Settles O20: SET_ALL fills PB and then only responds. -/
theorem setAllFillsBuffer : Obligations.SetAllFillsBuffer := by
  intro s r g b hc hwf
  rw [exec_setAll_ready hc, fillPixels_eq_replicate _ (pb_length_of_ready hc hwf), respond_eq_answered]
  rfl

/-- The high part of a concatenation counts in units of `2 ^ n`. -/
theorem toNat_append_eq_add {m n : Nat} (x : BitVec m) (y : BitVec n) :
    (x ++ y).toNat = x.toNat * 2 ^ n + y.toNat := by
  rw [BitVec.toNat_append, ← Nat.shiftLeft_add_eq_or_of_lt y.isLt, Nat.shiftLeft_eq]

/-- The datum of a pixel as a number: red in 23:16, green in 15:8, blue in 7:0, zero above (30_encoding.md R77). -/
theorem toNat_datum (p : Pixel) :
    p.datum.toNat = p.r.toNat * 2 ^ 16 + p.g.toNat * 2 ^ 8 + p.b.toNat := by
  have hpack : p.pack.toNat = (p.r.toNat * 2 ^ 8 + p.g.toNat) * 2 ^ 8 + p.b.toNat := by
    rw [Pixel.pack, toNat_append_eq_add, toNat_append_eq_add]
  rw [Pixel.datum, BitVec.toNat_setWidth_of_le (by decide), hpack]
  omega

/-- Settles O21: in range the read gives the entry, and GET_PIXEL answers its datum. -/
theorem getPixelAnswersEntry : Obligations.GetPixelAnswersEntry := by
  intro s i hc hwf h0 hlt
  obtain ⟨hi, hload⟩ := loadPixel_inside (inRange_iff.2 ⟨h0, hlt⟩) (pb_length_of_ready hc hwf)
  exact ⟨s.pb[i.toNat], _, List.getElem?_eq_getElem hi, toNat_datum _, exec_getPixel_loads hc hload⟩

end Sys2Proof.Machine

/-! SUPPORT. The operations of 42_present_ops.md in READY: frame start as one update of the state, the bytes of the
frame, and the run of a whole frame without a transmission fault. -/

namespace Sys2Proof.Machine

/-! ## Frame start -/

/-- Frame start (R124, R131) and the frame's draw (R136) as one update of the state before. -/
theorem beginFrame_eq (s : State) :
    beginFrame s =
      { s with
        frame := frameBytes s.hw.wireOrder s.pb
        cur := 0, txerr := false, phase := .data, busy := true
        txFault := nextTxFault s
        txFaultIn := s.txFaultIn.tail
        drawn := if s.txFaultIn = [] then s.drawn + 1 else s.drawn } := by
  simp only [← List.isEmpty_iff]
  rfl

/-- Settles O25: in READY the state check passes, and frame start is `beginFrame_eq`. -/
theorem presentStartsFrame : Obligations.PresentStartsFrame := by
  intro s hc
  rw [exec_present_ready hc, beginFrame_eq]

/-- CLEAR in READY starts the frame of the buffer of LEN black pixels (R121). -/
theorem exec_clear_black {s : State} (hc : s.cfg = .ready) (hl : s.pb.length = s.len.toNat) :
    exec .clear s = .next (beginFrame { s with pb := List.replicate s.len.toNat ⟨0, 0, 0⟩ }) := by
  rw [exec_clear_ready hc, fillPixels_eq_replicate _ hl, Pixel.black]

/-- Settles O26: both parts are `exec_clear_black`, and the frame of a black buffer is zero bytes. -/
theorem clearZeroesThenPresents : Obligations.ClearZeroesThenPresents := by
  intro s hc hwf
  have hclear := exec_clear_black hc (pb_length_of_ready hc hwf)
  constructor
  · rw [hclear, exec_present_ready]
    exact hc
  · rw [hclear, beginFrame_eq, frameBytes_black]
    rfl

/-! ## The bytes of a frame -/

/-- Byte `3 * i + j` of a frame is byte `j` of pixel `i` (20_memory.md R55). -/
theorem frameBytes_getElem? (o : WireOrder) {pb : List Pixel} {i j : Nat} {p : Pixel} (hp : pb[i]? = some p)
    (hj : j < 3) : (frameBytes o pb)[3 * i + j]? = (pixelBytes o p)[j]? := by
  induction pb generalizing i with
  | nil => simp at hp
  | cons q ps ih =>
    rw [frameBytes_cons]
    cases i with
    | zero =>
      obtain rfl : q = p := by simpa using hp
      rw [List.getElem?_append_left (by rw [pixelBytes_length]; omega), Nat.mul_zero, Nat.zero_add]
    | succ i =>
      have hshift : 3 * (i + 1) + j - 3 = 3 * i + j := by omega
      rw [List.getElem?_append_right (by rw [pixelBytes_length]; omega), pixelBytes_length, hshift]
      exact ih hp

/-- Settles O27: PRESENT's frame byte by byte from `frameBytes_getElem?`, CLEAR's from the frame of a black buffer. -/
theorem buildFrameBytes : Obligations.BuildFrameBytes := by
  intro s hc hwf
  have hl := pb_length_of_ready hc hwf
  refine ⟨⟨_, exec_present_ready hc, rfl, ?_, fun i hi => ?_⟩, ⟨_, exec_clear_black hc hl, rfl, ?_⟩⟩
  · rw [beginFrame_frame, frameBytes_length, hl]
  · have hp : s.pb[i]? = some s.pb[i] := List.getElem?_eq_getElem (hl ▸ hi)
    exact ⟨s.pb[i], hp, frameBytes_getElem? _ hp (j := 0) (by decide), frameBytes_getElem? _ hp (j := 1) (by decide),
      frameBytes_getElem? _ hp (j := 2) (by decide)⟩
  · rw [beginFrame_frame, frameBytes_black]

/-! ## The run of a frame without a transmission fault -/

/-- The coming step runs the operation the port offers. -/
theorem step_of_offers {s : State} {w : Command} {ws : List Command} {i : Instr} (ho : offers s w ws)
    (hd : decode w = .op i) : step s = exec i (atPort s) := by
  obtain ⟨hr, hb, hq⟩ := ho
  rw [step_of_word hr hb hq, frontEnd_of_op hd]

theorem step_of_encMove {s : State} {m : EncMove} (hr : rstAsserted s = false) (hb : s.busy = true)
    (hm : encMove (takeRst s) = .ok m) : step s = .next (applyMove m (takeRst s)) :=
  (step_of_busy hr hb).trans (encStep_of_encMove hm)

/-- SHOWN after the frame of `pixels` (10_state.md R32). -/
theorem shownAfter_of_frameBytes {s : State} {pixels : List Pixel} (hf : s.frame = frameBytes s.hw.wireOrder pixels) :
    shownAfter s = if s.txerr = true then List.replicate s.len.toNat none else pixels.map some := by
  rw [shownAfter, hf, framePixels_frameBytes]

theorem frameStatus_code (s : State) : (frameStatus s).code = if s.txerr = true then 0x02 else 0x00 := by
  rw [frameStatus, apply_ite Status.code]
  rfl

/-- The step to LATCH: all frame bits are sent and no draw is at the cursor (43_transmission_encoder.md R133). -/
theorem step_of_lastBitSent {s : State} (hr : rstAsserted s = false) (hb : s.busy = true) (hp : s.phase = .data)
    (hc : s.cur = frameBits s) (hx : s.txFault ≠ some s.cur) :
    step s = .next { s with rstIn := s.rstIn.tail, phase := .latch } :=
  step_of_encMove hr hb (encMove_toLatch hp hx hc)

/-- The LATCH step of the frame of `pixels` (43_transmission_encoder.md R134). -/
theorem step_of_latch {s : State} {pixels : List Pixel} (hr : rstAsserted s = false) (hb : s.busy = true)
    (hp : s.phase = .latch) (hf : s.frame = frameBytes s.hw.wireOrder pixels) :
    step s = .next (answered (if s.txerr = true then 0x02 else 0x00) 0
      { s with
        rstIn := s.rstIn.tail
        trace := s.trace ++ latchSym s.hw
        dout := .low
        nframes := s.nframes + 1
        shown := if s.txerr = true then List.replicate s.len.toNat none else pixels.map some
        phase := .data
        busy := false }) := by
  rw [step_of_encMove hr hb (encMove_latch hp), applyMove_latch, frameStatus_code,
    shownAfter_of_frameBytes (s := takeRst s) hf]
  rfl

/-- With all frame bits sent and no draw at the cursor, the step to LATCH and the LATCH step end the frame of `pixels`
(43_transmission_encoder.md R133, R134). -/
theorem runFor_frameEnd {s : State} {pixels : List Pixel} (hq : quietFor 2 s) (hb : s.busy = true)
    (hp : s.phase = .data) (hc : s.cur = frameBits s) (he : s.txerr = false) (hx : s.txFault ≠ some s.cur)
    (hf : s.frame = frameBytes s.hw.wireOrder pixels) :
    runFor 2 s = .next (answered 0x00 0
      { s with
        rstIn := s.rstIn.drop 2
        trace := s.trace ++ latchSym s.hw
        dout := .low
        nframes := s.nframes + 1
        shown := pixels.map some
        phase := .data
        busy := false }) := by
  have htoLatch := step_of_lastBitSent (rstAsserted_of_quietFor hq) hb hp hc hx
  have hlatch := step_of_latch (s := { s with rstIn := s.rstIn.tail, phase := .latch })
    (rstAsserted_of_quietFor (quietFor_of_tail hq rfl)) hb rfl hf
  rw [runFor_succ 1 htoLatch, runFor_succ 0 hlatch, runFor_zero]
  have hsamples : s.rstIn.tail.tail = s.rstIn.drop 2 := by simp only [← List.drop_one, List.drop_drop]
  simp [he, hsamples]

/-- From frame start, with no draw up to its last bit, the frame of `pixels` takes `n` DATA steps, the step to LATCH
and the LATCH step: its whole train is sent and the response is OK (43_transmission_encoder.md R139). -/
theorem runFor_frame {s : State} {n : Nat} {pixels : List Pixel} (h : s.Inv) (hb : s.busy = true)
    (hp : s.phase = .data) (h0 : s.cur = 0) (hn : n = 24 * s.len.toNat) (hq : quietFor (n + 2) s)
    (hf : s.frame = frameBytes s.hw.wireOrder pixels) (hx : ∀ k, k ≤ n → s.txFault ≠ some k) :
    runFor (n + 2) s = .next (answered 0x00 0
      { s with
        rstIn := s.rstIn.drop (n + 2)
        cur := n
        trace := s.trace ++ train s.hw s.frame
        dout := .low
        nframes := s.nframes + 1
        shown := pixels.map some
        phase := .data
        busy := false }) := by
  have hlen := h.frameLength hb
  have hdata := runFor_data n (quietFor_of_le hq (by omega)) hb hp (by omega) hlen (h.lineLow (ready_of_busy h hb))
    (fun k _ hk => hx k (by omega))
  have hbits : ((bitsOf s.frame).drop s.cur).take n = bitsOf s.frame := by
    rw [h0, List.drop_zero, List.take_of_length_le (by rw [bitsOf_length, hlen]; omega)]
  rw [hbits, h0, Nat.zero_add] at hdata
  rw [runFor_add n 2 hdata, runFor_frameEnd (pixels := pixels)]
  · rw [List.drop_drop, List.append_assoc, ← train_eq]
  · exact quietFor_of_drop hq rfl
  exacts [hb, hp, hn, h.dataClean hb hp, hx n (Nat.le_refl n), hf]

/-- The big step of PRESENT and CLEAR without a transmission fault (R139): a waiting operation that starts the frame of
the buffer `pb` leaves `afterFrame`. -/
theorem runFor_startedFrame {s : State} {i : Instr} {ws : List Command} {n : Nat} {pb : List Pixel} (h : s.Inv)
    (hc : s.cfg = .ready) (hn : n = 24 * s.len.toNat) (hq : quietFor (n + 3) s) (hi : i.wellFormed = true)
    (ho : offers s (encode i) ws) (hx : ∀ k, k ≤ n → nextTxFault s ≠ some k) (hl : pb.length = s.pb.length)
    (he : exec i (atPort s) = .next (beginFrame { atPort s with pb := pb })) :
    runFor (n + 3) s =
      .next (afterFrame s ws (n + 3) pb (train s.hw (frameBytes s.hw.wireOrder pb)) n false) := by
  have hstart := (step_of_offers ho (decodeOfEncode i hi)).trans he
  have hinv := inv_beginFrame (inv_setPb (inv_atPort h) hl) hc
  rw [runFor_succ (n + 2) hstart, runFor_frame hinv rfl rfl rfl hn (quietFor_of_tail hq rfl) rfl hx]
  obtain ⟨-, -, hwords⟩ := ho
  simp [answered, afterFrame, beginFrame_eq, hwords, takeRst, takeCommand, nextTxFault]

/-- The train of `m` zero bytes is `8 * m` zero bits and the latch (30_encoding.md R85). -/
theorem train_zeroBytes (hw : Config) (m : Nat) :
    train hw (List.replicate m 0) =
      (List.replicate (8 * m) [⟨.high, hw.t0h⟩, ⟨.low, hw.t0l⟩]).flatten ++ [⟨.low, hw.tLatch⟩] := by
  have hbits : bitsOf (List.replicate m 0) = List.replicate (8 * m) false := by
    rw [bitsOf, List.flatMap_replicate, Nat.mul_comm, ← List.flatten_replicate_replicate]
    rfl
  rw [train_eq, hbits, List.flatMap_replicate]
  rfl

/-- Settles O35: CLEAR starts the frame of a black buffer, the run is `runFor_startedFrame`'s, and the train is that of
zero bytes. -/
theorem clearDeliversBlackFrame : Obligations.ClearDeliversBlackFrame := by
  intro s ws n h hc hn hq ho hx
  obtain ⟨hl, -⟩ := h.ready hc
  rw [runFor_startedFrame h hc hn hq rfl ho hx (List.length_replicate.trans hl.symm)
      (exec_clear_black (s := atPort s) hc hl), frameBytes_black, train_zeroBytes, ← Nat.mul_assoc, ← hn]

end Sys2Proof.Machine

/-! SUPPORT. The encoder's steps (43_transmission_encoder.md R132 to R135) as one update of the state each, from any
state in flight, and that frames do not overlap (R131). -/

namespace Sys2Proof.Machine

/-! ## The four steps -/

/-- The DATA step (R132): the pulse pair of the bit at the cursor. -/
theorem step_of_bit {s : State} {b : Bool} (hr : rstAsserted s = false) (hb : s.busy = true) (hp : s.phase = .data)
    (hc : s.cur < 24 * s.len.toNat) (hx : s.txFault ≠ some s.cur) (hbit : frameBit s.frame s.cur = some b) :
    step s = .next
      { s with rstIn := s.rstIn.tail, cur := s.cur + 1, dout := .low, trace := s.trace ++ sym s.hw b } := by
  rw [step_of_encMove hr hb (encMove_bit (s := takeRst s) hp hx hc hbit), applyMove_bit]
  rfl

/-- Settles O29: the bit at the cursor is read from its byte, and its pulse pair is `sym`. -/
theorem dataStepSendsBit : Obligations.DataStepSendsBit := by
  intro s v hr hb hp hc hx hv
  have hbit : frameBit s.frame s.cur = some (v.getLsbD (7 - s.cur % 8)) := by rw [frameBit, hv, Option.map_some]
  exact step_of_bit hr hb hp hc hx hbit

/-- Settles O30. -/
theorem dataToLatch : Obligations.DataToLatch :=
  fun _ => step_of_lastBitSent

/-- Settles O31. -/
theorem latchStepEndsFrame : Obligations.LatchStepEndsFrame :=
  fun _ _ => step_of_latch

/-- The fault step (R135), where the draw is at the cursor. -/
theorem step_of_fault {s : State} (hr : rstAsserted s = false) (hb : s.busy = true) (hp : s.phase = .data)
    (he : s.txerr = false) (hx : s.txFault = some s.cur) :
    step s = .next { s with rstIn := s.rstIn.tail, txerr := true, phase := .latch } :=
  step_of_encMove hr hb (encMove_fail hp hx he)

/-- The LATCH step of a faulted frame (R134): whatever FRAME holds, it is not shown. -/
theorem step_of_faultedLatch {s : State} (hr : rstAsserted s = false) (hb : s.busy = true) (hp : s.phase = .latch)
    (he : s.txerr = true) :
    step s = .next (answered 0x02 0
      { s with
        rstIn := s.rstIn.tail
        trace := s.trace ++ latchSym s.hw
        dout := .low
        nframes := s.nframes + 1
        shown := List.replicate s.len.toNat none
        phase := .data
        busy := false }) := by
  have hshown : shownAfter (takeRst s) = List.replicate s.len.toNat none := if_pos he
  have hstatus : frameStatus (takeRst s) = .txFault := if_pos he
  rw [step_of_encMove hr hb (encMove_latch hp), applyMove_latch, hshown, hstatus]
  rfl

/-- The fault step and the LATCH step after it close the cut frame (R134, R135). -/
theorem runFor_faultEnd {s : State} (hq : quietFor 2 s) (hb : s.busy = true) (hp : s.phase = .data)
    (he : s.txerr = false) (hx : s.txFault = some s.cur) :
    runFor 2 s = .next (answered 0x02 0
      { s with
        rstIn := s.rstIn.drop 2
        txerr := true
        trace := s.trace ++ latchSym s.hw
        dout := .low
        nframes := s.nframes + 1
        shown := List.replicate s.len.toNat none
        phase := .data
        busy := false }) := by
  have hfault := step_of_fault (rstAsserted_of_quietFor hq) hb hp he hx
  have hlatch := step_of_faultedLatch (s := { s with rstIn := s.rstIn.tail, txerr := true, phase := .latch })
    (rstAsserted_of_quietFor (quietFor_of_tail hq rfl)) hb rfl rfl
  have hsamples : s.rstIn.tail.tail = s.rstIn.drop 2 := by simp only [← List.drop_one, List.drop_drop]
  rw [runFor_succ 1 hfault, runFor_succ 0 hlatch, runFor_zero, hsamples]

/-- Settles O32, from the fault step alone and from it with the LATCH step. -/
theorem faultStepCutsFrame : Obligations.FaultStepCutsFrame :=
  fun _ hq hb hp he _ hx => ⟨step_of_fault (rstAsserted_of_quietFor hq) hb hp he hx, runFor_faultEnd hq hb hp he hx⟩

/-! ## Frames do not overlap -/

/-- Only a PRESENT or a CLEAR in READY puts a frame in flight, and it starts the frame of the buffer it leaves. -/
theorem beginFrame_of_exec {i : Instr} {s t : State} (h : exec i s = .next t) (hb : s.busy = false)
    (ht : t.busy = true) :
    s.cfg = .ready ∧ (i = .present ∨ i = .clear) ∧ ∃ pb, t = beginFrame { s with pb := pb } := by
  have hidle (u : State) (hu : u.busy = s.busy) : u.busy ≠ true := by simp [hu, hb]
  rcases exec_cases h with ⟨-, -, rfl⟩ | ⟨_, _, -, -, -, -, rfl⟩ | ⟨_, _, -, -, -, rfl⟩ |
    ⟨_, _, _, _, u, -, -, hu, rfl⟩ | ⟨_, _, _, -, -, rfl⟩ | ⟨hi, hc, rfl⟩ | ⟨hi, hc, rfl⟩ | ⟨_, _, -, -, -, rfl⟩ |
    ⟨-, -, rfl⟩
  · exact absurd ht (hidle _ rfl)
  · exact absurd ht Bool.false_ne_true
  · exact absurd ht (hidle _ rfl)
  · exact absurd ht (hidle u (by rw [eq_setPb_of_storePixel hu]))
  · exact absurd ht (hidle _ rfl)
  · exact ⟨hc, .inr hi, _, rfl⟩
  · exact ⟨hc, .inl hi, s.pb, rfl⟩
  · exact absurd ht (hidle _ rfl)
  · exact absurd ht (hidle _ rfl)

/-- No move turns the cursor back. -/
theorem cur_le_applyMove (m : EncMove) (s : State) : s.cur ≤ (applyMove m s).cur := by
  cases m with
  | bit b => rw [applyMove_bit]; exact Nat.le_succ _
  | _ => exact Nat.le_refl _

/-- Settles O28: of the steps that leave BUSY = 1, one from BUSY = 0 is an operation that starts a frame, one from
BUSY = 1 a move of the encoder. -/
theorem framesNeverOverlap : Obligations.FramesNeverOverlap := by
  intro s t hr hs ht
  rcases step_cases hs with ⟨hrst, -⟩ | ⟨-, hb, m, -, rfl⟩ | ⟨-, hb, -, rfl⟩ | ⟨-, hb, w, ws, i, hq, hd, he⟩ |
    ⟨-, hb, _, _, _, -, -, rfl⟩
  · simp [hr] at hrst
  · exact ⟨fun hidle => by simp [hb] at hidle, fun _ => ⟨applyMove_keeps_frame m _, cur_le_applyMove m (takeRst s)⟩⟩
  · exact absurd (hb.symm.trans ht) Bool.false_ne_true
  · obtain ⟨hc, hi, pb, rfl⟩ := beginFrame_of_exec he hb ht
    exact ⟨fun _ => ⟨hc, rfl, rfl, rfl, rfl, w, ws, i, hq, hd, hi⟩, fun hbusy => by simp [hb] at hbusy⟩
  · exact absurd (hb.symm.trans ht) Bool.false_ne_true

end Sys2Proof.Machine

/-! SUPPORT. Runs of the encoder: a byte, a whole frame with and without a transmission fault (R138, R139), and that
every frame ends (R143). -/

namespace Sys2Proof.Machine

/-! ## A run of DATA steps -/

theorem frameBit_of_isPrefix {f : List Byte} {n : Nat} {b : Bool} {bs : List Bool}
    (h : b :: bs <+: (bitsOf f).drop n) : frameBit f n = some b ∧ bs <+: (bitsOf f).drop (n + 1) := by
  obtain ⟨rest, hrest⟩ := h
  rw [List.cons_append] at hrest
  constructor
  · rw [frameBit_eq, ← List.head?_drop, ← hrest, List.head?_cons]
  · rw [← List.tail_drop, ← hrest]
    exact List.prefix_append bs rest

/-- As many DATA steps as there are bits in `bs`, which are the frame's next, send the symbols of `bs`. Unlike in
`runFor_data`, FRAME may have any length and the line any level before the first step. -/
theorem runFor_bits (bs : List Bool) {s : State} (hq : quietFor bs.length s) (hb : s.busy = true)
    (hp : s.phase = .data) (hc : s.cur + bs.length ≤ 24 * s.len.toNat)
    (hx : ∀ k, s.cur ≤ k → k < s.cur + bs.length → s.txFault ≠ some k) (hbs : bs <+: (bitsOf s.frame).drop s.cur) :
    runFor bs.length s = .next
      { s with
        rstIn := s.rstIn.drop bs.length
        cur := s.cur + bs.length
        dout := if bs = [] then s.dout else .low
        trace := s.trace ++ bs.flatMap (sym s.hw) } := by
  induction bs generalizing s with
  | nil => simp [runFor]
  | cons b bs ih =>
    rw [List.length_cons] at hq hc hx ⊢
    obtain ⟨hbit, hrest⟩ := frameBit_of_isPrefix hbs
    have hstep := step_of_bit (rstAsserted_of_quietFor hq) hb hp (by omega) (hx s.cur (by omega) (by omega)) hbit
    rw [runFor_succ _ hstep, ih]
    · simp [Nat.add_assoc, Nat.add_comm 1]
    · exact quietFor_of_tail hq rfl
    · exact hb
    · exact hp
    · simp only; omega
    · intro k h1 h2
      simp only at h1 h2
      exact hx k (by omega) (by omega)
    · exact hrest

theorem bitsOf_cons (v : Byte) (f : List Byte) : bitsOf (v :: f) = byteBits v ++ bitsOf f := rfl

/-- A frame's bits from a byte boundary on are the bits of its bytes from there on. -/
theorem bitsOf_drop (f : List Byte) (q : Nat) : (bitsOf f).drop (8 * q) = bitsOf (f.drop q) := by
  induction q generalizing f with
  | zero => rfl
  | succ q ih =>
    cases f with
    | nil => simp [bitsOf]
    | cons v f =>
      have h8 : 8 * (q + 1) = (byteBits v).length + 8 * q := by rw [byteBits_length]; omega
      rw [bitsOf_cons, h8, List.drop_length_add_append, List.drop_succ_cons, ih]

/-- From a byte boundary the next eight bits are those of the byte there. -/
theorem byteBits_isPrefix {f : List Byte} {n : Nat} {v : Byte} (hn : n % 8 = 0) (hv : f[n / 8]? = some v) :
    byteBits v <+: (bitsOf f).drop n := by
  obtain ⟨hlt, hget⟩ := List.getElem?_eq_some_iff.1 hv
  have hn8 : n = 8 * (n / 8) := by omega
  rw [hn8, bitsOf_drop, List.drop_eq_getElem_cons hlt, hget, bitsOf_cons]
  exact List.prefix_append _ _

theorem byteSyms_length (hw : Config) (v : Byte) : (byteSyms hw v).length = 16 := by
  rw [byteSyms, flatMap_sym_length, byteBits_length]

/-- Settles O33: the eight steps are the run over the bits of the byte at the cursor. -/
theorem eightStepsSendByte : Obligations.EightStepsSendByte :=
  ⟨fun hw v => ⟨byteSyms_length hw v, rfl⟩, fun _ v hq hb hp hn hc hx hv =>
    runFor_bits (byteBits v) hq hb hp hc hx (byteBits_isPrefix hn hv)⟩

/-! ## The big steps -/

/-- Settles O34: PRESENT starts the frame of the buffer, and the run is `runFor_startedFrame`'s. -/
theorem presentDeliversTrain : Obligations.PresentDeliversTrain :=
  fun s _ _ h hc hn hq ho hx =>
    runFor_startedFrame h hc hn hq rfl ho hx rfl (exec_present_ready (s := atPort s) hc)

/-- From frame start with the draw `at(k)`: `k` DATA steps, the fault step and the LATCH step send the first `k` pulse
pairs of the train and the latch, and the response is TX_FAULT (R139). -/
theorem runFor_faultedFrame {s : State} {k : Nat} (h : s.Inv) (hb : s.busy = true) (hp : s.phase = .data)
    (h0 : s.cur = 0) (hk : k ≤ 24 * s.len.toNat) (hq : quietFor (k + 2) s) (hx : s.txFault = some k) :
    runFor (k + 2) s = .next (answered 0x02 0
      { s with
        rstIn := s.rstIn.drop (k + 2)
        cur := k
        txerr := true
        trace := s.trace ++ faultedTrain s.hw s.frame k
        dout := .low
        nframes := s.nframes + 1
        shown := List.replicate s.len.toNat none
        phase := .data
        busy := false }) := by
  have hlen := h.frameLength hb
  have hdata := runFor_data k (quietFor_of_le hq (by omega)) hb hp (by omega) hlen (h.lineLow (ready_of_busy h hb))
    (fun j _ hj => by rw [hx, ne_eq, Option.some_inj]; omega)
  rw [h0, Nat.zero_add, List.drop_zero, ← train_take _ _ _ (by omega)] at hdata
  rw [runFor_add k 2 hdata, runFor_faultEnd]
  · rw [List.drop_drop, List.append_assoc, ← faultedTrain]
  · exact quietFor_of_drop hq rfl
  exacts [hb, hp, h.dataClean hb hp, hx]

/-- The big step of PRESENT and CLEAR with the draw `at(k)` (R139, R142): a waiting operation that starts the frame of
the buffer `pb` leaves `afterFrame`. -/
theorem runFor_startedFaultedFrame {s : State} {i : Instr} {ws : List Command} {k : Nat} {pb : List Pixel} (h : s.Inv)
    (hc : s.cfg = .ready) (hk : k ≤ 24 * s.len.toNat) (hq : quietFor (k + 3) s) (hi : i.wellFormed = true)
    (ho : offers s (encode i) ws) (hx : nextTxFault s = some k) (hl : pb.length = s.pb.length)
    (he : exec i (atPort s) = .next (beginFrame { atPort s with pb := pb })) :
    runFor (k + 3) s =
      .next (afterFrame s ws (k + 3) pb (faultedTrain s.hw (frameBytes s.hw.wireOrder pb) k) k true) := by
  have hstart := (step_of_offers ho (decodeOfEncode i hi)).trans he
  have hinv := inv_beginFrame (inv_setPb (inv_atPort h) hl) hc
  rw [runFor_succ (k + 2) hstart, runFor_faultedFrame hinv rfl rfl rfl hk (quietFor_of_tail hq rfl) hx]
  obtain ⟨-, -, hwords⟩ := ho
  simp [answered, afterFrame, beginFrame_eq, hwords, takeRst, takeCommand, nextTxFault]

/-- Settles O36: PRESENT starts the frame of the buffer, CLEAR that of a black one. -/
theorem faultedFrameIsPrefixAndLatch : Obligations.FaultedFrameIsPrefixAndLatch := by
  intro s ws k h hc hk hq hx
  obtain ⟨hl, -⟩ := h.ready hc
  exact ⟨fun ho => runFor_startedFaultedFrame h hc hk hq rfl ho hx rfl (exec_present_ready (s := atPort s) hc),
    fun ho => runFor_startedFaultedFrame h hc hk hq rfl ho hx (List.length_replicate.trans hl.symm)
      (exec_clear_black (s := atPort s) hc hl)⟩

/-! ## Every frame ends -/

/-- Within `N` steps the frame in flight ends, counted once and answered once. -/
def EndsWithin (N : Nat) (s : State) : Prop :=
  ∃ (n : Nat) (t : State), n ≤ N ∧ runFor n s = .next t ∧ t.busy = false ∧ t.phase = .data ∧
    t.nframes = s.nframes + 1 ∧ t.rspLog = s.rspLog ++ [t.rsp] ∧ (t.rsp = ⟨0x00, 0⟩ ∨ t.rsp = ⟨0x02, 0⟩)

theorem endsWithin_of_le {M N : Nat} {s : State} (h : EndsWithin M s) (hMN : M ≤ N) : EndsWithin N s := by
  obtain ⟨n, t, hn, hend⟩ := h
  exact ⟨n, t, hn.trans hMN, hend⟩

/-- A step that ends no frame and answers nothing is one step more. -/
theorem endsWithin_of_step {N : Nat} {s u : State} (hs : step s = .next u) (hframes : u.nframes = s.nframes)
    (hlog : u.rspLog = s.rspLog) (h : EndsWithin N u) : EndsWithin (N + 1) s := by
  obtain ⟨n, t, hn, hrun, hend⟩ := h
  rw [hframes, hlog] at hend
  exact ⟨n + 1, t, Nat.succ_le_succ hn, (runFor_succ n hs).trans hrun, hend⟩

theorem endsWithin_of_latch {s : State} (hr : rstAsserted s = false) (hb : s.busy = true) (hp : s.phase = .latch) :
    EndsWithin 1 s := by
  have hstep := step_of_encMove hr hb (encMove_latch (s := takeRst s) hp)
  refine ⟨1, _, Nat.le_refl 1, runFor_succ 0 hstep, rfl, rfl, rfl, rfl, ?_⟩
  rw [applyMove_latch, frameStatus_code]
  split
  · exact .inr rfl
  · exact .inl rfl

/-- A step to LATCH leaves the LATCH step to be done. -/
theorem endsWithin_of_stepToLatch {s u : State} (hq : quietFor 2 s) (hs : step s = .next u)
    (hrst : u.rstIn = s.rstIn.tail) (hb : u.busy = true) (hp : u.phase = .latch) (hframes : u.nframes = s.nframes)
    (hlog : u.rspLog = s.rspLog) : EndsWithin 2 s :=
  endsWithin_of_step hs hframes hlog
    (endsWithin_of_latch (rstAsserted_of_quietFor (quietFor_of_tail hq hrst)) hb hp)

/-- With `m` bits left a frame in flight ends within `m + 2` steps (R143): a bit brings the cursor nearer to `24 * LEN`,
the fault and the last bit lead to LATCH, and the LATCH step ends it. -/
theorem endsWithin_of_inv (m : Nat) {s : State} (h : s.Inv) (hb : s.busy = true) (hm : s.cur + m = 24 * s.len.toNat)
    (hq : quietFor (m + 2) s) : EndsWithin (m + 2) s := by
  induction m using Nat.strong_induction_on generalizing s with
  | _ m ih =>
    have hr := rstAsserted_of_quietFor hq
    have hq2 : quietFor 2 s := quietFor_of_le hq (by omega)
    obtain ⟨move, hmove⟩ := encMove_ok (inv_takeRst h) hb
    have hstep := step_of_encMove hr hb hmove
    rcases encMove_cases hmove with ⟨hp, rfl⟩ | ⟨-, -, -, rfl⟩ | ⟨-, -, hc, b, -, rfl⟩ | ⟨-, -, -, rfl⟩
    · exact endsWithin_of_le (endsWithin_of_latch hr hb hp) (by omega)
    · exact endsWithin_of_le (endsWithin_of_stepToLatch hq2 hstep rfl hb rfl rfl rfl) (by omega)
    · have hinv := stepKeepsInvariant s _ h hstep
      rw [applyMove_bit] at hstep hinv
      obtain ⟨j, rfl⟩ : ∃ j, m = j + 1 := ⟨m - 1, by simp only [frameBits, takeRst_cur, takeRst_len] at hc; omega⟩
      refine endsWithin_of_step hstep rfl rfl (ih j (Nat.lt_succ_self j) hinv hb ?_ (quietFor_of_tail hq rfl))
      simp only [takeRst_cur, takeRst_len]
      omega
    · exact endsWithin_of_le (endsWithin_of_stepToLatch hq2 hstep rfl hb rfl rfl rfl) (by omega)

/-- Settles O37: `endsWithin_of_inv` with the bits left, at most `24 * LEN`. -/
theorem everyFrameEnds : Obligations.EveryFrameEnds := by
  intro s h hb hq
  have hcur := h.cursor
  exact endsWithin_of_le (endsWithin_of_inv (24 * s.len.toNat - s.cur) h hb (by omega) (quietFor_of_le hq (by omega)))
    (by omega)

end Sys2Proof.Machine

/-! SUPPORT. What an earlier frame left in the encoder is read by nothing between frames (R140). -/

namespace Sys2Proof.Machine

/-- The state with other leftovers of an earlier frame: FRAME, CUR, TXERR and the draw. -/
def withLeftovers (f : List Byte) (c : Nat) (e : Bool) (x : Option Nat) (s : State) : State :=
  { s with frame := f, cur := c, txerr := e, txFault := x }

/-- `g`, which leads from `s` to `t`, leads from `s` with any other leftovers to `t` but for them, and to `t` itself
where a frame is in flight there. -/
def IgnoresLeftovers (g : State → Result) (s t : State) : Prop :=
  ∀ f c e x, ∃ f' c' e' x', g (withLeftovers f c e x s) = .next (withLeftovers f' c' e' x' t) ∧
    (t.busy = true → f' = t.frame ∧ c' = t.cur ∧ e' = t.txerr ∧ x' = t.txFault)

/-- Where no frame is started the leftovers may stay. -/
theorem ignoresLeftovers_of_idle {g : State → Result} {s t : State} (hb : t.busy = false)
    (hg : ∀ f c e x, ∃ f' c' e' x', g (withLeftovers f c e x s) = .next (withLeftovers f' c' e' x' t)) :
    IgnoresLeftovers g s t := by
  intro f c e x
  obtain ⟨f', c', e', x', h⟩ := hg f c e x
  exact ⟨f', c', e', x', h, fun ht => by simp [hb] at ht⟩

/-- Frame start writes all four, so it leads to the same state. -/
theorem ignoresLeftovers_of_same {g : State → Result} {s t : State}
    (hg : ∀ f c e x, g (withLeftovers f c e x s) = .next t) : IgnoresLeftovers g s t :=
  fun f c e x => ⟨t.frame, t.cur, t.txerr, t.txFault, hg f c e x, fun _ => ⟨rfl, rfl, rfl, rfl⟩⟩

theorem ignoresLeftovers_exec {i : Instr} {s t : State} (hb : s.busy = false) (h : exec i s = .next t) :
    IgnoresLeftovers (exec i) s t := by
  rcases exec_cases h with ⟨h1, h2, rfl⟩ | ⟨pin, n, rfl, hc, hn, ho, rfl⟩ | ⟨pin, n, rfl, hc, hno, rfl⟩ |
    ⟨p, r, g, b, u, rfl, hc, hu, rfl⟩ | ⟨r, g, b, rfl, hc, rfl⟩ | ⟨rfl, hc, rfl⟩ | ⟨rfl, hc, rfl⟩ |
    ⟨p, v, rfl, hc, hv, rfl⟩ | ⟨rfl, hc, rfl⟩
  · exact ignoresLeftovers_of_idle hb fun f c e x =>
      ⟨f, c, e, x, exec_refused (s := withLeftovers f c e x s) h1 h2⟩
  · exact ignoresLeftovers_of_idle rfl fun f c e x =>
      ⟨f, 0, false, x, exec_init_succeeds (s := withLeftovers f c e x s) hc hn ho⟩
  · exact ignoresLeftovers_of_idle hb fun f c e x =>
      ⟨f, c, e, x, exec_init_fails (s := withLeftovers f c e x s) hc hno⟩
  · have hu' (f c e x) := storePixel_ok_congr (s := s) (s' := withLeftovers f c e x s) rfl rfl hu
    rw [eq_setPb_of_storePixel hu]
    exact ignoresLeftovers_of_idle hb fun f c e x =>
      ⟨f, c, e, x, exec_setPixel_stores (s := withLeftovers f c e x s) hc (hu' f c e x)⟩
  · exact ignoresLeftovers_of_idle hb fun f c e x =>
      ⟨f, c, e, x, exec_setAll_ready (s := withLeftovers f c e x s) hc⟩
  · exact ignoresLeftovers_of_same fun f c e x => exec_clear_ready (s := withLeftovers f c e x s) hc
  · exact ignoresLeftovers_of_same fun f c e x => exec_present_ready (s := withLeftovers f c e x s) hc
  · exact ignoresLeftovers_of_idle hb fun f c e x =>
      ⟨f, c, e, x, exec_getPixel_loads (s := withLeftovers f c e x s) hc hv⟩
  · exact ignoresLeftovers_of_idle hb fun f c e x =>
      ⟨f, c, e, x, exec_getLength_ready (s := withLeftovers f c e x s) hc⟩

theorem ignoresLeftovers_step {s t : State} (hr : rstAsserted s = false) (hb : s.busy = false)
    (hs : step s = .next t) : IgnoresLeftovers step s t := by
  rcases step_cases hs with ⟨hrst, -⟩ | ⟨-, hbusy, -⟩ | ⟨-, -, hq, rfl⟩ | ⟨-, -, w, ws, i, hq, hd, he⟩ |
    ⟨-, -, w, ws, why, hq, hd, rfl⟩
  · simp [hr] at hrst
  · simp [hb] at hbusy
  · exact ignoresLeftovers_of_idle hb fun f c e x =>
      ⟨f, c, e, x, step_of_nothing_waiting (s := withLeftovers f c e x s) hr hb hq⟩
  · intro f c e x
    rw [step_of_word (s := withLeftovers f c e x s) hr hb hq, frontEnd_of_op hd]
    exact ignoresLeftovers_exec (s := atPort s) hb he f c e x
  · exact ignoresLeftovers_of_idle hb fun f c e x =>
      ⟨f, c, e, x, (step_of_word (s := withLeftovers f c e x s) hr hb hq).trans (frontEnd_of_illegal hd _)⟩

/-- Settles O39: `IgnoresLeftovers` of a step, the other leftovers spelled as a state update. -/
theorem earlierFramesLeaveNoTrace : Obligations.EarlierFramesLeaveNoTrace :=
  fun _ _ f c e x hr hb hs => ignoresLeftovers_step hr hb hs f c e x

end Sys2Proof.Machine

/-! SUPPORT. The front end's answers (60_exceptions.md): the operation a word decodes to is the one that runs, BAD_STATE
and INIT_FAULT have their causes, and no step stops. -/

namespace Sys2Proof.Machine

/-- Settles O11: the coming step runs the operation the port offers, at the state `atPort` spells. -/
theorem stepRunsDecodedOperation : Obligations.StepRunsDecodedOperation := by
  intro s w ws i ho hd
  rw [step_of_offers ho hd, atPort_of_offers ho]

/-- Settles O45: `safe_of_inv` needs the invariant and nothing of what waits at the ports. -/
theorem noStepStops : Obligations.NoStepStops :=
  fun _ => safe_of_inv

/-! ## The causes of a status -/

/-- Why an operation run in `s` may answer a status at once: OK needs no cause, BAD_STATE a pair that R155 does not
permit, INIT_FAULT an INIT from UNCONFIGURED (R151). No operation answers another status at once. -/
inductive StatusCause (i : Instr) (s : State) : Status → Prop where
  | ok : StatusCause i s .ok
  | badState (hinit : i.opcode = .init → s.cfg ≠ .unconfigured) (hother : i.opcode ≠ .init → s.cfg ≠ .ready) :
      StatusCause i s .badState
  | initFault (pin : Byte) (n : Word32) (hi : i = .init pin n) (hc : s.cfg = .unconfigured) :
      StatusCause i s .initFault

/-- An operation answers nothing yet, or one response whose status has its cause. -/
theorem statusCause_of_exec {i : Instr} {s t : State} (h : exec i s = .next t) :
    t.rspLog = s.rspLog ∨
    ∃ st d, StatusCause i s st ∧ t.rsp = ⟨st.code, d⟩ ∧ t.rspLog = s.rspLog ++ [⟨st.code, d⟩] := by
  rcases exec_cases h with ⟨h1, h2, rfl⟩ | ⟨_, _, -, -, -, -, rfl⟩ | ⟨pin, n, hi, hc, -, rfl⟩ |
    ⟨_, _, _, _, u, -, -, hu, rfl⟩ | ⟨_, _, _, -, -, rfl⟩ | ⟨-, -, rfl⟩ | ⟨-, -, rfl⟩ | ⟨_, _, -, -, -, rfl⟩ |
    ⟨-, -, rfl⟩
  · exact .inr ⟨_, _, .badState h1 h2, rfl, rfl⟩
  · exact .inr ⟨_, _, .ok, rfl, rfl⟩
  · exact .inr ⟨_, _, .initFault pin n hi hc, rfl, rfl⟩
  · exact .inr ⟨_, _, .ok, rfl, by rw [eq_setPb_of_storePixel hu]; rfl⟩
  · exact .inr ⟨_, _, .ok, rfl, rfl⟩
  · exact .inl rfl
  · exact .inl rfl
  · exact .inr ⟨_, _, .ok, rfl, rfl⟩
  · exact .inr ⟨_, _, .ok, rfl, rfl⟩

/-- Settles O12: `exec_refused` for the pairs that are not permitted; for the others the operation answers
(`exec_next`), and the cause of a BAD_STATE is excluded. -/
theorem permittedPairs : Obligations.PermittedPairs := by
  intro s i
  simp only [ite_prop_iff_and]
  refine ⟨fun ⟨hinit, hother⟩ => exec_refused hinit hother, fun ⟨hinit, hother⟩ hwf => ?_⟩
  obtain ⟨t, ht⟩ := exec_next hwf i
  refine ⟨t, ht, (statusCause_of_exec ht).imp_right fun ⟨st, d, hcause, _, hlog⟩ => ⟨_, hlog, ?_⟩⟩
  cases hcause with
  | ok => exact (by decide : Status.ok.code ≠ 0x03)
  | badState hninit hnother =>
    by_cases hi : i.opcode = .init
    · exact absurd (hinit hi) (hninit hi)
    · exact absurd (hother hi) (hnother hi)
  | initFault => exact (by decide : Status.initFault.code ≠ 0x03)

/-! ## The initialization fault -/

/-- The state of a failed INIT (R151) as one update of the state before its draw. -/
theorem failInit_takeInitOk (s : State) :
    failInit (takeInitOk s) =
      { s with
        cfg := .failed
        initOkIn := s.initOkIn.tail
        drawn := if s.initOkIn = [] then s.drawn + 1 else s.drawn } := by
  simp [failInit, takeInitOk]

/-- In FAILED no pair is permitted, INIT included (R155). -/
theorem exec_of_failed {s : State} (hc : s.cfg = .failed) (i : Instr) : exec i s = .next (answered 0x03 0 s) :=
  exec_refused (fun _ => by simp [hc]) (fun _ => by simp [hc])

/-- The encoder's one answer, at the latch, is OK or TX_FAULT. -/
theorem applyMove_answers_no_initFault (m : EncMove) (s : State) :
    (applyMove m s).rspLog = s.rspLog ∨ (applyMove m s).rsp.status ≠ 0x01 := by
  cases m with
  | bit b => rw [applyMove_bit]; exact .inl rfl
  | toLatch => exact .inl rfl
  | fail => exact .inl rfl
  | latch =>
    have hcode : (frameStatus s).code ≠ 0x01 := by rw [frameStatus_code]; split <;> decide
    exact .inr hcode

/-- An operation that answers INIT_FAULT is an INIT from UNCONFIGURED. -/
theorem init_of_exec_initFault {i : Instr} {s t : State} (h : exec i s = .next t) (hnew : t.rspLog ≠ s.rspLog)
    (hst : t.rsp.status = 0x01) : ∃ pin n, i = .init pin n ∧ s.cfg = .unconfigured := by
  obtain ⟨st, d, hcause, hrsp, -⟩ := (statusCause_of_exec h).resolve_left hnew
  rw [hrsp] at hst
  cases hcause with
  | ok => exact absurd hst (by decide : Status.ok.code ≠ 0x01)
  | badState => exact absurd hst (by decide : Status.badState.code ≠ 0x01)
  | initFault pin n hi hc => exact ⟨pin, n, hi, hc⟩

/-- A step that answers INIT_FAULT took an INIT from UNCONFIGURED: the encoder answers none, nor does the front end to
an illegal word. -/
theorem init_of_step_initFault {s t : State} (hr : rstAsserted s = false) (hs : step s = .next t)
    (hnew : t.rspLog ≠ s.rspLog) (hst : t.rsp.status = 0x01) :
    ∃ w ws pin n, s.cmdIn = w :: ws ∧ decode w = .op (.init pin n) ∧ s.cfg = .unconfigured := by
  rcases step_cases hs with ⟨hrst, -⟩ | ⟨-, -, m, -, rfl⟩ | ⟨-, -, -, rfl⟩ | ⟨-, -, w, ws, i, hq, hd, he⟩ |
    ⟨-, -, _, _, _, -, -, rfl⟩
  · simp [hr] at hrst
  · exact absurd hst ((applyMove_answers_no_initFault m (takeRst s)).resolve_left hnew)
  · exact absurd rfl hnew
  · obtain ⟨pin, n, rfl, hc⟩ := init_of_exec_initFault he hnew hst
    exact ⟨w, ws, pin, n, hq, hd, hc⟩
  · exact absurd hst (by decide : Status.illegalCmd.code ≠ 0x01)

/-- Settles O16: the failure branch of INIT with its state spelled, the cause of an INIT_FAULT, and the refusals in
FAILED. -/
theorem initializationFault : Obligations.InitializationFault := by
  refine ⟨fun s pin n hc hfail => ?_, fun _ _ => init_of_step_initFault, fun _ i hc => exec_of_failed hc i⟩
  have hno : ¬(lengthAdmitted n s = true ∧ initOk s = true) := by
    rintro ⟨hn, ho⟩
    rcases hfail with hlong | hdraw
    · exact absurd (lengthAdmitted_iff.1 hn) (Nat.not_le.2 hlong)
    · simp [hdraw] at ho
  rw [exec_init_fails hc hno, failInit_takeInitOk]
  rfl

end Sys2Proof.Machine

namespace Sys2Proof.Machine

/-! ## What survives a reset -/

/-- A reset reads nothing of a state but the instance, the number of free values drawn and what waits at the ports
(R171, log 4). -/
theorem applyReset_congr {s s' : State} (hhw : s'.hw = s.hw) (hdrawn : s'.drawn = s.drawn)
    (hcmd : s'.cmdIn = s.cmdIn) (hrst : s'.rstIn = s.rstIn) (hok : s'.initOkIn = s.initOkIn)
    (htx : s'.txFaultIn = s.txFaultIn) : applyReset s' = applyReset s := by
  rw [applyReset, applyReset, hhw, hdrawn, hcmd, hrst, hok, htx]

/-- Whether reset is asserted is a matter of the waiting samples alone (R170). -/
theorem rstAsserted_congr {s s' : State} (hrst : s'.rstIn = s.rstIn) : rstAsserted s' = rstAsserted s := by
  rw [rstAsserted, rstAsserted, hrst]

/-- Settles O9: the other state samples the same `rst`, so both steps are resets, and a reset does not tell the two
states apart. -/
theorem nothingSurvivesReset : Obligations.NothingSurvivesReset := by
  intro s s' hr
  refine ⟨step_of_reset hr, fun hhw hdrawn hcmd hrst hok htx => ?_⟩
  have hr' : rstAsserted s' = true := (rstAsserted_congr hrst).trans hr
  rw [step_of_reset hr, step_of_reset hr', applyReset_congr hhw hdrawn hcmd hrst hok htx]

end Sys2Proof.Machine
